-- ==== Sys2Proof/Word.lean ====
section
/-! DEFINITION. The plain number types of the processor: bytes on its links, lug numbers, and the
saturating count that most of its fault counters use. -/

namespace Sys2Proof

/-- A byte on a link. -/
abbrev Byte := BitVec 8

/-- A 16-bit field of a scanner record. -/
abbrev Half := BitVec 16

/-- A lug number: 24 bits, counting modulo 2^24 (introduction 9.2). -/
abbrev Lug := BitVec 24

/-- A board's offset: the current lug number less the board's own, modulo 2^24 (introduction 9.2). -/
def offsetOf (now board : Lug) : Nat := (now - board).toNat

end Sys2Proof
end

