-- ==== Sys2Proof/Config.lean ====
section
/-! DEFINITION. What is fixed for every 640: the limits of introduction section 7 and the built-in
values its chapters give, and the one function that the spec leaves open. -/

namespace Sys2Proof.Config

/-- Greatest value of a saturating 16-bit count. -/
def countMax : Nat := 65535
/-- Open logs (section 2.1). -/
def openLogs : Nat := 16
/-- Notices in the notice queue (R182). -/
def noticeCapacity : Nat := 64
/-- Replies in the reply queue (R180). -/
def replyCapacity : Nat := 4
/-- Reply and message lines in a station's output queue (R112, R114). -/
def stationLines : Nat := 8
/-- Captures in the capture buffer (R174). -/
def captureCapacity : Nat := 8
/-- Watch slots (section 11.1). -/
def watchSlots : Nat := 4
/-- Operations in the store operation queue (R162). -/
def storeQueue : Nat := 4
/-- Flash blocks (section 10.2). -/
def flashBlocks : Nat := 256
/-- Bytes in a flash block (introduction section 7: 32 KiB). -/
def blockBytes : Nat := 32768
/-- Bytes the block header takes (R160). -/
def headerBytes : Nat := 256
/-- Period records kept (R158, R165). -/
def periodsKept : Nat := 32
/-- Wear lag beyond which the STATIC block is moved (R166). -/
def wearLag : Nat := 200
/-- Product tally bins (section 9.2). -/
def tallyBins : Nat := 256
/-- Order records (section 9.4). -/
def orderRecords : Nat := 32
/-- Bin table entries (R144). -/
def binEntries : Nat := 32
/-- HOLD frames per station (R72). -/
def holdsPerStation : Nat := 2
/-- Value table entries (R105). -/
def valueEntries : Nat := 200
/-- Greatest body length of a Line Link frame (section 12.2). -/
def bodyMax : Nat := 1024
/-- Greatest value of an 8-digit decimal counter (R146). -/
def digits8 : Nat := 99999999
/-- Greatest value of a 10-digit decimal counter (R146). -/
def digits10 : Nat := 9999999999

/-- The 27 built-in BASE limits in limit number order (section 5.3). -/
def builtInBase : List Nat :=
  [56, 54, 52, 48, 44] ++ [0, 10, 25, 40, 60] ++ [2, 5, 8, 11, 14] ++ [0, 0, 1, 1, 1] ++
    [0, 10, 10, 15, 20] ++ [1, 3]

/-- The default bin when no settings record names another (R144). -/
def defaultBin : Nat := 30
/-- The pulse width when there is no settings record (R140). -/
def defaultPulseWidth : Nat := 20
/-- The checkpoint interval when there is no settings record (R149). -/
def defaultInterval : Nat := 32
/-- The check word of a store record over its kind, sequence number and body (R160). The spec gives the function no definition and
no width, so it has none here: a free value (DESIGN CHOICE, log entry 49). -/
opaque checkWord {Kind Body : Type} (kind : Kind) (seq : BitVec 32) (body : Body) : Nat

/-- The straggler length that a LOG CUT field of 0 selects (R22). -/
def defaultStraggler : Nat := 40

end Sys2Proof.Config
end

