-- ==== Sys2Proof/Syntax.lean ====
section
/-! DEFINITION. The commands of the 640: one constructor of `Instr` for every row of
spec/opcode_table.json. A row for a request of the line computer carries the frame's tag and its body
bytes (R191); a row for a record of a scanner or a pendant carries the record; a row at which an input
without a row of its own is sampled carries the level sampled. -/

namespace Sys2Proof

/-- The two grading stations. -/
inductive StationId where
  | a
  | b
deriving DecidableEq, Repr

/-- One character on a receive line: a byte, or a character received with a framing error. -/
inductive RxChar where
  | byte (b : Byte)
  | framingError
deriving DecidableEq, Repr

/-- The thirteen scanner links (section 12.8). -/
inductive ScannerLink where
  | head (h : Fin 11)
  | vision
  | logScan
deriving DecidableEq, Repr

/-- One segment of a head frame as received (section 12.9). -/
structure RawSegment where
  coverage : Byte
  thickness : Byte
  width : Half
  wane : Byte
deriving DecidableEq, Repr

/-- A head frame taken whole: lug tag, head number field and its two segments (section 12.9). -/
structure HeadFrame where
  tag : Byte
  head : Byte
  first : RawSegment
  second : RawSegment
deriving DecidableEq, Repr

/-- A defect frame taken whole: lug tag, head number field, context number, status and 22 segment bytes. -/
structure DefectFrame where
  tag : Byte
  head : Byte
  context : Byte
  status : Byte
  entries : List Byte
deriving DecidableEq, Repr

/-- Which of its two receivers a lug boundary reaches first: R3 hands the boundary to both, and
section 4.4 (R58) leaves open which has dealt with it when (DESIGN CHOICE, log entry 4). -/
inductive BoundaryOrder where
  | trackingFirst
  | assemblerFirst
deriving DecidableEq, Repr

/-- The levels a lug boundary samples (R3), with the order its receivers are reached in. They are used
only when the pulse takes a boundary (DESIGN CHOICE, log entry 3). `expiriesFirst`: the lug counters are reached before
the other receivers, and the expiries pending then are serviced before them, the order that R24 leaves open (DESIGN
CHOICE, log entry 4). -/
structure BoundarySample where
  presence : Bool
  chainRun : Bool
  order : BoundaryOrder
  expiriesFirst : Bool
deriving DecidableEq, Repr

/-- How far the flash had come when its supply or the RESET input cut it off. `markWritten`: the record in
flight had its completion mark (R160). `headerLost`: the block being erased is found with an unreadable
header (R165). DESIGN CHOICE, log entry 14. -/
structure FlashCut where
  markWritten : Bool
  headerLost : Bool
deriving DecidableEq, Repr

/-- The commands, one for each row of spec/opcode_table.json, in the table's order. -/
inductive Instr where
  | encoderPulse (a b : Bool) (sample : BoundarySample)
  | syncEyePulse (sample : BoundarySample)
  | holdExpiry (code : Nat)
  | stragglerExpiry (logId : Nat)
  | lineStop
  | lineStopRelease
  | powerFailWarning
  | powerFailRelease
  | powerOn (visionPresent : Bool)
  | resetAssertion (cut : FlashCut)
  | resetRelease (visionPresent : Bool)
  | startingEnd
  | logScanRecord (diameters : List Half)
  | headFrame (link : Fin 11) (frame : HeadFrame)
  | defectFrame (frame : DefectFrame)
  | scannerLinkBreak (link : ScannerLink) (received : List RxChar)
  | strobeEnd
  | strobeGapEnd
  | solveComplete
  | ackRise
  | ackFall
  | pulseEnd
  | pulseGapEnd
  | gradeMarkKey (station : StationId) (g : Nat)
  | trimMarkKey (station : StationId) (p q : Nat)
  | chipKey (station : StationId)
  | releaseKey (station : StationId)
  | selectOlderKey (station : StationId)
  | holdKey (station : StationId) (g n : Nat)
  | cancelHoldKey (station : StationId)
  | refreshKey (station : StationId)
  | stationSyntaxRecord (station : StationId) (received : List RxChar)
  | stationLineSent (station : StationId)
  | status (tag : Byte) (body : List Byte) (chainRun : Bool)
  | setLine (tag : Byte) (body : List Byte)
  | setBaseRules (tag : Byte) (body : List Byte)
  | saveSettings (tag : Byte) (body : List Byte)
  | openRun (tag : Byte) (body : List Byte)
  | closeRun (tag : Byte) (body : List Byte)
  | priceSet (tag : Byte) (body : List Byte)
  | priceWithdraw (tag : Byte) (body : List Byte)
  | priceRestore (tag : Byte) (body : List Byte)
  | priceRead (tag : Byte) (body : List Byte)
  | frameRead (tag : Byte) (body : List Byte)
  | orderSet (tag : Byte) (body : List Byte)
  | orderCancel (tag : Byte) (body : List Byte)
  | orderRead (tag : Byte) (body : List Byte)
  | binSet (tag : Byte) (body : List Byte)
  | binClear (tag : Byte) (body : List Byte)
  | binRead (tag : Byte) (body : List Byte)
  | logStart (tag : Byte) (body : List Byte)
  | logCut (tag : Byte) (body : List Byte)
  | tallyRead (tag : Byte) (body : List Byte)
  | tallyClose (tag : Byte) (body : List Byte)
  | periodRead (tag : Byte) (body : List Byte)
  | watchSet (tag : Byte) (body : List Byte)
  | watchClear (tag : Byte) (body : List Byte)
  | captureRead (tag : Byte) (body : List Byte)
  | lineResume (tag : Byte) (body : List Byte)
  | clearLine (tag : Byte) (body : List Byte)
  | unknownType (type tag : Byte) (body : List Byte)
  | frameDiscarded (received : List RxChar)
  | lineLinkBreak (received : List RxChar)
  | frameSent
  | checkpointWriteDone
  | periodWriteDone
  | settingsWriteDone
  | relocateStaticDone
  | reclaimEraseDone (failed : Bool)
  | powerLoss (cut : FlashCut)
  | scannerRecordDiscarded (link : ScannerLink) (received : List RxChar)
deriving DecidableEq, Repr

end Sys2Proof
end

