-- ==== Sys2Proof/Decode.lean ====
section
/-! DEFINITION. Words of the opcode table. The rows of spec/opcode_table.json give no bits: a command reaches the block as
an event on one of its pins or links, so no word spells one. The frames and records that carry requests, keys and scanner
data are decoded in Machine/Operands.lean and Machine/Receive.lean. -/

namespace Sys2Proof

/-- The command a table word spells: none, since no row of the table gives bits. -/
def decodeTableWord (_nbits _w : Nat) : Option Instr := none

end Sys2Proof
end

