-- ==== Sys2Proof/Machine/State.lean ====
section
/-! DEFINITION. The state of the 640 as plain data, block by block as the spec's chapters give it, the
queue of waiting commands, and the state right after reset. -/

namespace Sys2Proof.Machine

/-! ### Lug counters (section 1.5) -/

/-- What a trigger does while a lug counter runs (R8); also each station's retrigger option (R124). -/
inductive Retrigger where
  | reload
  | ignore
deriving DecidableEq, Repr

/-- A lug counter (R7 to R9): reload value, remaining count, run state, retrigger option, expiry pending. -/
structure LugCounter where
  reload : Nat
  remaining : Nat
  running : Bool
  retrigger : Retrigger
  expiryPending : Bool
deriving DecidableEq, Repr

/-! ### The processor as a whole (R186, R187) -/

/-- The reset cause that READY carries (R187). -/
inductive ResetCause where
  | powerOn
  | reset
deriving DecidableEq, Repr

/-- Where the processor stands: without supply, held by RESET, STARTING, or taking events. -/
inductive Power where
  | off
  | resetHeld
  | starting (cause : ResetCause)
  | ready
deriving DecidableEq, Repr

/-- The levels of the discrete inputs (introduction section 4): encoder A and B, presence eye,
chain-run, line-stop, power-fail warning, RESET, vision-present, and the trimmer's ACK. -/
structure Pins where
  encA : Bool
  encB : Bool
  presence : Bool
  chainRun : Bool
  lineStop : Bool
  powerFail : Bool
  reset : Bool
  visionPresent : Bool
  ack : Bool
deriving DecidableEq, Repr

/-- The tally the restore found (R168 step 6). -/
inductive RestoreOutcome where
  | none
  | checkpoint
  | period
deriving DecidableEq, Repr

/-- What STARTING keeps (R187): whether the restore has ended and the settings are taken, whether a settings record was
found, and the restore outcome. -/
structure StartInfo where
  restored : Bool
  settingsSaved : Bool
  outcome : RestoreOutcome
deriving DecidableEq, Repr

/-! ### Chain Interface (section 1.1) -/

/-- Line state (section 1.1). -/
inductive LineState where
  | running
  | stopped
deriving DecidableEq, Repr

/-- The eight values SET LINE carries (R10), the tolerance being the one in force. -/
structure LineConfig where
  pulses : Nat
  tolerance : Nat
  markA : Nat
  markB : Nat
  window : Nat
  commit : Nat
  deadline : Nat
  sort : Nat
deriving DecidableEq, Repr

/-- The Chain Interface (section 1.1); the lug counters stand in their owners' records. -/
structure Chain where
  lug : Lug
  phase : Nat
  backlash : Nat
  aligned : Bool
  boundaryMark : Bool
  line : LineState
  config : LineConfig
  slips : Nat
  eyeMisses : Nat
  encoderErrors : Nat
deriving DecidableEq, Repr

/-! ### Log Scaler (section 2.1) -/

/-- Log states (section 2.4). -/
inductive LogState where
  | scanned
  | sawing
  | cut
  | draining
deriving DecidableEq, Repr

/-- The log flags (section 2.1). -/
structure LogFlags where
  filled : Bool
  clamped : Bool
  countMismatch : Bool
  short : Bool
  forced : Bool
deriving DecidableEq, Repr

/-- A log's scaling figures (R19). -/
structure LogFigures where
  length : Nat
  sed : Nat
  led : Nat
  volume : Nat
  taper : Nat
  diameterClass : Nat
deriving DecidableEq, Repr

/-- An open log record (section 2.1). -/
structure Log where
  id : Nat
  state : LogState
  figures : LogFigures
  announced : Option Nat
  seen : Nat
  pending : Nat
  doneCount : Nat
  pieces : Nat
  chips : Nat
  missedLost : Nat
  twelfths : Nat
  flags : LogFlags
  timer : LugCounter
deriving DecidableEq, Repr

/-- The Log Scaler: queue oldest first, next id, fault counts. -/
structure LogScaler where
  queue : List Log
  nextId : Nat
  shortRecords : Nat
  emptyRecords : Nat
  forcedCloses : Nat
deriving DecidableEq, Repr

/-! ### Scan Assembler (section 3.1) -/

/-- Vision states (section 3.5). -/
inductive VisionState where
  | absent
  | contextPending
  | online
  | offline
deriving DecidableEq, Repr

/-- A context record (R41): context number, species, nominal thickness. -/
structure ContextRecord where
  context : Byte
  species : Nat
  thickness : Nat
deriving DecidableEq, Repr

/-- The Scan Assembler (section 3.1). `headsReceived` has one mark for each head, `headMisses` one count for
each head, `badFrames` one count for each head link and a twelfth for the vision link. `contextsSent` is the
MODEL's own view of the vision link: every context record sent since STARTING began, oldest first (DESIGN CHOICE,
log entry 12). -/
structure Assembler where
  currentLug : Option Lug
  boardPresent : Bool
  cleared : Bool
  headsReceived : List Bool
  held : Option DefectFrame
  answered : Bool
  vision : VisionState
  context : Byte
  misses : Nat
  headMisses : List Nat
  badFrames : List Nat
  eyeDisagree : Nat
  late : Nat
  stale : Nat
  visionFaults : Nat
  visionMisses : Nat
  unexpected : Nat
  contextsSent : List ContextRecord
deriving DecidableEq, Repr

/-! ### Board records (section 4.1) -/

/-- Coverage of a segment (section 3.8). -/
inductive Coverage where
  | full
  | part
  | none
  | unknown
deriving DecidableEq, Repr

/-- A segment record (section 4.1). -/
structure Segment where
  coverage : Coverage
  thickness : Nat
  width : Nat
  wane : Nat
  defect : Option Nat
  split : Option Bool
  grade : Option Nat
deriving DecidableEq, Repr

/-- A product key: species, nominal thickness, grade, length and width class. -/
structure ProductKey where
  species : Nat
  thickness : Nat
  grade : Nat
  length : Nat
  widthClass : Nat
deriving DecidableEq, Repr

/-- The reason of a solve request (R54, R89). -/
inductive Reason where
  | first
  | override
  | hold
deriving DecidableEq, Repr

/-- The decision flags (R104). -/
structure DecisionFlags where
  noRun : Bool
  noPrice : Bool
  tableLimited : Bool
  orderExcluded : Bool
  orderDiscount : Bool
deriving DecidableEq, Repr

/-- The piece of a PIECE decision: saws p and q, product key (with N, grade and class) and nominal width. -/
structure Piece where
  p : Nat
  q : Nat
  key : ProductKey
  width : Nat
deriving DecidableEq, Repr

/-- A decision record (R104): PIECE when `piece` is present, CHIP when it is absent. Bit k of the mask is
saw Sk. -/
structure Decision where
  piece : Option Piece
  score : Nat
  mask : BitVec 11
  flags : DecisionFlags
  reason : Reason
deriving DecidableEq, Repr

/-- An override record (section 7.5). -/
structure Override where
  owner : StationId
  grade : Option Nat
  trim : Option (Nat × Nat)
  chip : Bool
deriving DecidableEq, Repr

/-- A board's window at one station (section 4.1). -/
inductive Window where
  | notYet
  | isOpen
  | closed
deriving DecidableEq, Repr

/-- Board states (section 4.2). -/
inductive BoardState where
  | assembling
  | solving
  | solved
  | committed
  | accepted
  | missed
deriving DecidableEq, Repr

/-- The board flags (R66). -/
structure BoardFlags where
  slipped : Bool
  headMissing : Bool
  clamped : Bool
  geoOnly : Bool
  noScan : Bool
  runStraddle : Bool
  notCommitted : Bool
  trimOverrun : Bool
  trimDeadline : Bool
deriving DecidableEq, Repr

/-- A sort result (R142): bin and stamp code. -/
structure SortResult where
  bin : Nat
  stamp : Nat
deriving DecidableEq, Repr

/-- A board record (section 4.1). `watchHits` has one mark for each watch slot. -/
structure Board where
  lug : Lug
  state : BoardState
  logId : Option Nat
  assemblyRun : Option Nat
  runAtSolve : Option Nat
  segments : List Segment
  extent : Option (Nat × Nat)
  decision : Option Decision
  override : Option Override
  generation : Option (BitVec 16)
  windowA : Window
  windowB : Window
  commitDue : Bool
  sort : Option SortResult
  flags : BoardFlags
  watchHits : List Bool
deriving DecidableEq, Repr

/-- The Tracking Table: records oldest first, and the not-committed count (R62). -/
structure Tracking where
  boards : List Board
  notCommitted : Nat
deriving DecidableEq, Repr

/-! ### Frame Chain (section 5.2) -/

/-- A HOLD frame (R72): owner, ceiling, hold code, lifetime. -/
structure Hold where
  owner : StationId
  ceiling : Nat
  code : Nat
  timer : LugCounter
deriving DecidableEq, Repr

/-- The frame chain (R72): the BASE frame's 27 values, the RUN frame's entries (limit number and value) if
there is one, the HOLD frames oldest first; the generation number and the next hold code. -/
structure Frames where
  base : List Nat
  run : Option (List (Nat × Nat))
  holds : List Hold
  generation : BitVec 16
  nextCode : Nat
deriving DecidableEq, Repr

/-! ### Orders (section 9.4), read by every solve -/

/-- A packed-decimal tally counter (R146): value and saturation mark. -/
structure Counter where
  value : Nat
  saturated : Bool
deriving DecidableEq, Repr

/-- Order states (section 9.4). -/
inductive OrderState where
  | isOpen
  | filled
deriving DecidableEq, Repr

/-- An order's action (section 9.4). -/
inductive OrderAction where
  | exclude
  | discount (d : Nat)
deriving DecidableEq, Repr

/-- An order record (section 9.4). -/
structure Order where
  key : ProductKey
  target : Nat
  filled : Counter
  state : OrderState
  action : OrderAction
deriving DecidableEq, Repr

/-! ### Trim Solver (section 6.1) -/

/-- The run record (section 6.3); a width class is its nominal width and its minimum actual width. -/
structure Run where
  number : Nat
  species : Nat
  thickness : Nat
  classes : List (Nat × Nat)
deriving DecidableEq, Repr

/-- The state of a value table entry (R105). -/
inductive ValueState where
  | absent
  | present
  | withdrawn
deriving DecidableEq, Repr

/-- A value table entry (R105). -/
structure ValueEntry where
  state : ValueState
  value : Nat
deriving DecidableEq, Repr

/-- What a solve takes at its begin (R90). -/
structure SolveInput where
  segments : List Segment
  extent : Option (Nat × Nat)
  geoOnly : Bool
  noScan : Bool
  assemblyRun : Option Nat
  override : Option Override
  run : Option Run
  limits : List Nat
  generation : BitVec 16
  values : List ValueEntry
  orders : List Order
deriving DecidableEq, Repr

/-- The solve in progress (section 6.1). -/
structure Solve where
  lug : Lug
  reason : Reason
  input : SolveInput
deriving DecidableEq, Repr

/-- The Trim Solver (section 6.1). -/
structure Solver where
  queue : List (Lug × Reason)
  inProgress : Option Solve
  run : Option Run
  values : List ValueEntry
  completed : Nat
  highWater : Nat
deriving DecidableEq, Repr

/-! ### Station Interface (section 7.1) -/

/-- The reply lines (R113). -/
inductive StationReply where
  | ok
  | noSyntax
  | noBoard
  | noTooLate
  | noWood
  | noRun
  | noHoldFull
  | noHoldActive
  | noNoHold
deriving DecidableEq, Repr

/-- The board part of a display line (R121), as the state stood when the line was formed. -/
structure DisplayBoard where
  lug : Lug
  selected : Bool
  state : BoardState
  decision : Option Decision
  override : Option Override
  flags : BoardFlags
deriving DecidableEq, Repr

/-- A display line (R121): the board shown, if any, and the station's holds (code and ceiling), oldest first. -/
structure DisplayLine where
  board : Option DisplayBoard
  holds : List (Nat × Nat)
deriving DecidableEq, Repr

/-- A line to a pendant (section 7.3). -/
inductive StationLine where
  | reply (r : StationReply)
  | display (d : DisplayLine)
  | superseded (lug : Lug) (taker : StationId)
deriving DecidableEq, Repr

/-- One station (section 7.1). `output` is the output queue oldest first, with the line being sent at its
head; `sending` says that the head's sending has begun. -/
structure Station where
  selection : Option Lug
  last : Option Lug
  buffer : List Byte
  discard : Bool
  output : List StationLine
  sending : Bool
  retrigger : Retrigger
  records : Nat
  syntaxCount : Nat
  overruns : Nat
  messagesLost : Nat
deriving DecidableEq, Repr

/-! ### Trimmer Port (section 8.2) -/

/-- Handshake modes (section 8.2). -/
inductive Handshake where
  | interlocked
  | pulsed
deriving DecidableEq, Repr

/-- Handshake phases (section 8.2). -/
inductive Phase where
  | ready
  | on
  | recovering
deriving DecidableEq, Repr

/-- A decision in a slot: its board, its saw lines (R129), and the pending-again mark. -/
structure Slot where
  lug : Lug
  mask : BitVec 11
  again : Bool
deriving DecidableEq, Repr

/-- The output lines of the trimmer port (R129). -/
structure TrimLines where
  saws : BitVec 11
  tag : BitVec 6
  dv : Bool
deriving DecidableEq, Repr

/-- The Trimmer Port (section 8.2). `onLines` is the presented condition ON; `lastTag` is the lug tag last
driven (R133), 0 before any (DESIGN CHOICE, log entry 27). -/
structure Trimmer where
  presented : Option Slot
  onLines : Bool
  staged : Option Slot
  phase : Phase
  mode : Handshake
  width : Nat
  lines : TrimLines
  lastTag : BitVec 6
  accepted : Nat
  overruns : Nat
  deadlines : Nat
  handshakeFaults : Nat
  representations : Nat
deriving DecidableEq, Repr

/-! ### Sorter Port (sections 8.11, 8.12) -/

/-- The strobe state (R142), with the codes on the lines and the width the strobe began with. -/
inductive Strobe where
  | idle
  | strobing (codes : SortResult) (width : Nat)
  | gap (width : Nat)
deriving DecidableEq, Repr

/-- The Sorter Port: bin table oldest first, default bin, strobe, waiting strobe, counts. -/
structure Sorter where
  bins : List (ProductKey × Nat)
  defaultBin : Nat
  strobe : Strobe
  waiting : Option SortResult
  delivered : Nat
  overruns : Nat
deriving DecidableEq, Repr

/-! ### Tally Unit (section 9.2) -/

/-- A product tally bin (section 9.2). -/
structure TallyBin where
  key : ProductKey
  width : Nat
  pieces : Counter
  twelfths : Counter
deriving DecidableEq, Repr

/-- An account of a count and its twelfths (section 9.2). -/
structure Account where
  count : Counter
  twelfths : Counter
deriving DecidableEq, Repr

/-- A diameter class of the log tally (section 9.2). -/
structure LogClass where
  logs : Counter
  volume : Counter
  boards : Counter
  twelfths : Counter
deriving DecidableEq, Repr

/-- The counters of a period: what a period record carries (R156) beside its number and lug. -/
structure TallyBody where
  bins : List TallyBin
  chips : Counter
  missed : Counter
  lost : Counter
  overflow : Account
  unattributed : Account
  classes : List LogClass
deriving DecidableEq, Repr

/-- The live tally (section 9.2) without its period number. -/
structure LiveTally where
  body : TallyBody
  fullFault : Bool
  widthFault : Bool
deriving DecidableEq, Repr

/-- The Tally Unit: period number, live tally, order table oldest first, accepted count, and the checkpoint
interval it is counted against (R149). -/
structure Tally where
  period : Nat
  live : LiveTally
  orders : List Order
  accepted : Nat
  interval : Nat
deriving DecidableEq, Repr

/-! ### Tally Store (chapter 10) -/

/-- A period record (R156). -/
structure PeriodRecord where
  period : Nat
  lug : Lug
  body : TallyBody
deriving DecidableEq, Repr

/-- The settings image (R160, R185). -/
structure Settings where
  line : LineConfig
  base : List Nat
  retriggerA : Retrigger
  retriggerB : Retrigger
  mode : Handshake
  width : Nat
  bins : List (ProductKey × Nat)
  defaultBin : Nat
  interval : Nat
deriving DecidableEq, Repr

/-- A checkpoint's body (R160). -/
structure Checkpoint where
  period : Nat
  lug : Lug
  live : LiveTally
  orders : List Order
deriving DecidableEq, Repr

/-- The body of a store record, with its kind (R160). -/
inductive StoreBody where
  | checkpoint (c : Checkpoint)
  | period (r : PeriodRecord)
  | settings (i : Settings)
deriving DecidableEq, Repr

/-- Kind of a store record, as its header and STORE_FULL carry it (R160, R161). -/
inductive RecordKind where
  | checkpoint
  | period
  | settings
deriving DecidableEq, Repr

/-- A record in a block (R160): its body, whose form is its kind, its sequence number, its check word as read, and whether its
completion mark is present. -/
structure StoreRecord where
  body : StoreBody
  seq : BitVec 32
  check : Nat
  mark : Bool
deriving DecidableEq, Repr

/-- The role a block header carries (section 10.2). -/
inductive BlockRole where
  | journal
  | static
deriving DecidableEq, Repr

/-- The block table's state of a block (section 10.2). -/
inductive BlockState where
  | free
  | active
  | full
  | static
deriving DecidableEq, Repr

/-- A flash block: its header (readable or not, erase count, role), its records in the order written, and its
entry in the block table, which R168 builds anew at every restore. -/
structure Block where
  headerOk : Bool
  eraseCount : Nat
  role : BlockRole
  records : List StoreRecord
  state : BlockState
deriving DecidableEq, Repr

/-- A store operation (R162). -/
inductive StoreOp where
  | checkpoint
  | period (r : PeriodRecord)
  | settings (i : Settings)
  | relocate
deriving DecidableEq, Repr

/-- The write an operation in flight is making: the block, the record as it will stand when complete, and
whether the block is taken as the new STATIC block (R164, R166). -/
structure FlashWrite where
  block : Nat
  record : StoreRecord
  newStatic : Bool
deriving DecidableEq, Repr

/-- The operation in flight: the write it makes, or none where no room or no need was found at its begin. -/
structure InFlight where
  write : Option FlashWrite
deriving DecidableEq, Repr

/-- The Tally Store (chapter 10). The oldest entry of `queue` is the operation in flight when `inFlight` is
present; `erasing` is the block a reclaim is erasing; `reclaimAgain` is the model's own mark that
another reclaim was asked for meanwhile (R165). -/
structure Store where
  blocks : List Block
  queue : List StoreOp
  inFlight : Option InFlight
  erasing : Option Nat
  reclaimAgain : Bool
  deferred : Bool
  relocationDue : Bool
  conditionFull : Bool
  warned : Bool
  skipped : Nat
  nextSeq : BitVec 32
deriving DecidableEq, Repr

/-! ### Watch Unit (chapter 11) -/

/-- The points at which a board is handed to the Watch Unit (section 11.1). -/
inductive Point where
  | solve
  | commit
  | report
deriving DecidableEq, Repr

/-- The station an OVERRIDE condition names (R172). -/
inductive WatchStation where
  | a
  | b
  | either
deriving DecidableEq, Repr

/-- The seven conditions (R172). -/
inductive Condition where
  | log (id : Nat)
  | product (key : ProductKey)
  | grade (g : Nat)
  | override (st : WatchStation)
  | missed
  | chip
  | flags (board : BoardFlags) (decision : DecisionFlags)
deriving DecidableEq, Repr

/-- Slot states (section 11.1). -/
inductive SlotState where
  | empty
  | armed
  | disarmed
deriving DecidableEq, Repr

/-- Scope of a watch slot (section 11.1). -/
inductive Scope where
  | localRun
  | global
deriving DecidableEq, Repr

/-- What WATCH SET programs into a slot (R170). -/
structure WatchProgram where
  condition : Condition
  point : Point
  scope : Scope
  capture : Bool
  oneShot : Bool
deriving DecidableEq, Repr

/-- A watch slot (section 11.1). -/
structure WatchSlot where
  state : SlotState
  program : Option WatchProgram
  hits : Nat
  lastHit : Option Lug
  captureLost : Bool
deriving DecidableEq, Repr

/-- A capture (section 11.3). -/
structure Capture where
  slot : Nat
  point : Point
  lug : Lug
  board : Board
deriving DecidableEq, Repr

/-- The Watch Unit: its four slots, the capture buffer oldest first, the captures-discarded count. -/
structure Watch where
  slots : List WatchSlot
  captures : List Capture
  discarded : Nat
deriving DecidableEq, Repr

/-! ### Line Link (section 12.1) -/

/-- Reply codes (R180). -/
inductive ReplyCode where
  | accepted
  | acceptedClamped
  | unknownType
  | badLength
  | outOfRange
  | noRun
  | runOpen
  | state
  | tableFull
  | notFound
  | busy
  | notReady
  | stopped
deriving DecidableEq, Repr

/-- A reply (R180): the request's type and tag, the code, and the data after the code. -/
structure Reply where
  type : Byte
  tag : Byte
  code : ReplyCode
  data : List Byte
deriving DecidableEq, Repr

/-- Hold notice causes (R83). -/
inductive HoldCause where
  | created
  | expired
  | cancelled
  | runClosed
deriving DecidableEq, Repr

/-- Capture outcome of a hit (R173). -/
inductive CaptureOutcome where
  | stored
  | lost
  | none
deriving DecidableEq, Repr

/-- A FAULT notice's kind and fields (section 12.4). -/
inductive FaultNotice where
  | lugSlip (lug : Lug) (deviation : Nat) (early : Bool)
  | logShort (stations : Nat)
  | logEmpty (stations : Nat)
  | vision (lug : Lug) (context : Byte)
  | visionOffline (lug : Lug)
  | handshake (lug : Lug) (tag : BitVec 6)
  | tallyFull (key : ProductKey) (period : Nat)
  | tallyWidth (key : ProductKey) (binWidth pieceWidth : Nat)
  | storeFull (kind : RecordKind) (lug : Lug)
deriving DecidableEq, Repr

/-- A log's recovery record (R27). -/
structure Recovery where
  id : Nat
  figures : LogFigures
  announced : Option Nat
  seen : Nat
  pieces : Nat
  chips : Nat
  missedLost : Nat
  twelfths : Nat
  ratio : Nat
  flags : LogFlags
deriving DecidableEq, Repr

/-- A BOARD REPORT (R65); the dropped field is written as its sending begins (R183). -/
structure BoardReport where
  lug : Lug
  logId : Option Nat
  runAtSolve : Option Nat
  final : BoardState
  decision : Option Decision
  sort : SortResult
  override : Option Override
  flags : BoardFlags
  dropped : Nat
deriving DecidableEq, Repr

/-- The notices (section 12.4). -/
inductive Notice where
  | ready (cause : ResetCause) (vision : VisionState) (saved : Bool) (outcome : RestoreOutcome)
      (storeFull : Bool) (period : Nat)
  | boardReport (r : BoardReport)
  | logRecovery (r : Recovery)
  | orderFilled (key : ProductKey) (target : Nat) (filled : Counter) (action : OrderAction)
      (lug : Option Lug) (period : Nat)
  | hold (cause : HoldCause) (owner : StationId) (code ceiling reload remaining : Nat) (lug : Lug)
      (generation : BitVec 16)
  | watchHit (slot : Nat) (point : Point) (condition : Condition) (board now : Lug) (hits : Nat)
      (outcome : CaptureOutcome)
  | fault (f : FaultNotice)
  | lineStopped (lug : Lug)
deriving DecidableEq, Repr

/-- The framer (R178): RECEIVING or HUNT, the unescaped bytes received, and a held 7Dh. -/
structure Framer where
  receiving : Bool
  buffer : List Byte
  escaped : Bool
deriving DecidableEq, Repr

/-- What the transmitter is sending (R181): the oldest reply, or the oldest notice with its notice tag. -/
inductive Sending where
  | reply
  | notice (tag : Byte)
deriving DecidableEq, Repr

/-- The Line Link (section 12.1). `scanners` holds, for the eleven head links, the vision link and the log scan
link, the bytes of the record being received (none while hunting); `scannerFails` their check-fail counts. -/
structure Link where
  framer : Framer
  replies : List Reply
  notices : List Notice
  sending : Option Sending
  noticeTag : Byte
  droppedSince : Nat
  checkFails : Nat
  badLengths : Nat
  brokenFrames : Nat
  replyOverruns : Nat
  reportsDropped : Nat
  noticesDropped : Nat
  scanners : List (Option (List Byte))
  scannerFails : List Nat
deriving DecidableEq, Repr

/-! ### The whole state -/

/-- The state of the 640, block by block, and the commands that wait, first in first out. -/
structure State where
  power : Power
  pins : Pins
  start : StartInfo
  chain : Chain
  logs : LogScaler
  scan : Assembler
  track : Tracking
  frames : Frames
  solver : Solver
  stationA : Station
  stationB : Station
  trimmer : Trimmer
  sorter : Sorter
  tally : Tally
  store : Store
  watch : Watch
  link : Link
  pending : List Instr
deriving DecidableEq, Repr

/-! ### One update for each block: every operation changes the state through these alone -/

/-- `s` with another `power`. -/
def State.setPower (s : State) (x : Power) : State := { s with power := x }
/-- `s` with another `pins`. -/
def State.setPins (s : State) (x : Pins) : State := { s with pins := x }
/-- `s` with another `start`. -/
def State.setStart (s : State) (x : StartInfo) : State := { s with start := x }
/-- `s` with another `chain`. -/
def State.setChain (s : State) (x : Chain) : State := { s with chain := x }
/-- `s` with another `logs`. -/
def State.setLogs (s : State) (x : LogScaler) : State := { s with logs := x }
/-- `s` with another `scan`. -/
def State.setScan (s : State) (x : Assembler) : State := { s with scan := x }
/-- `s` with another `track`. -/
def State.setTrack (s : State) (x : Tracking) : State := { s with track := x }
/-- `s` with another `frames`. -/
def State.setFrames (s : State) (x : Frames) : State := { s with frames := x }
/-- `s` with another `solver`. -/
def State.setSolver (s : State) (x : Solver) : State := { s with solver := x }
/-- `s` with another `stationA`. -/
def State.setStationA (s : State) (x : Station) : State := { s with stationA := x }
/-- `s` with another `stationB`. -/
def State.setStationB (s : State) (x : Station) : State := { s with stationB := x }
/-- `s` with another `trimmer`. -/
def State.setTrimmer (s : State) (x : Trimmer) : State := { s with trimmer := x }
/-- `s` with another `sorter`. -/
def State.setSorter (s : State) (x : Sorter) : State := { s with sorter := x }
/-- `s` with another `tally`. -/
def State.setTally (s : State) (x : Tally) : State := { s with tally := x }
/-- `s` with another `store`. -/
def State.setStore (s : State) (x : Store) : State := { s with store := x }
/-- `s` with another `watch`. -/
def State.setWatch (s : State) (x : Watch) : State := { s with watch := x }
/-- `s` with another `link`. -/
def State.setLink (s : State) (x : Link) : State := { s with link := x }
/-- `s` with another `pending`. -/
def State.setPending (s : State) (x : List Instr) : State := { s with pending := x }

/-- Why a command could stop the machine: the spec names no event that does, so there is no such reason and
no command of this model answers a fault (log entry 31). -/
inductive Fault where
deriving DecidableEq, Repr

/-- Why the model could refuse a command. -/
inductive Refusal where
  /-- Raised by `exec` alone, for a command without a meaning. No arm of this model raises it. Safe: the
  machine stops where the hardware would go on. -/
  | notModelled (mnemonic : String)
deriving DecidableEq, Repr

/-! ### Reset values -/

/-- A lug counter at its creation: IDLE (R20, R72). -/
def LugCounter.idle (reload : Nat) (option : Retrigger) : LugCounter :=
  { reload := reload, remaining := 0, running := false, retrigger := option, expiryPending := false }

/-- The defaults of SET LINE (section 1.6), the tolerance field 0 standing for floor(512/16). -/
def LineConfig.default : LineConfig :=
  { pulses := 512, tolerance := 32, markA := 6, markB := 9, window := 3, commit := 14, deadline := 18, sort := 24 }

/-- The settings in force when no settings record is found: each block's built-in values (R187). -/
def Settings.builtIn : Settings :=
  { line := LineConfig.default, base := Config.builtInBase, retriggerA := .reload, retriggerB := .reload,
    mode := .interlocked, width := Config.defaultPulseWidth, bins := [], defaultBin := Config.defaultBin,
    interval := Config.defaultInterval }

/-- Every input inactive, the encoder pair at 00. -/
def Pins.low : Pins :=
  { encA := false, encB := false, presence := false, chainRun := false, lineStop := false, powerFail := false,
    reset := false, visionPresent := false, ack := false }

/-- The Chain Interface after power-on or RESET (R14), with the settings' line values. -/
def Chain.initial (c : LineConfig) : Chain :=
  { lug := 0, phase := 0, backlash := 0, aligned := false, boundaryMark := false, line := .running, config := c,
    slips := 0, eyeMisses := 0, encoderErrors := 0 }

/-- The Log Scaler after power-on or RESET (R29). -/
def LogScaler.initial : LogScaler :=
  { queue := [], nextId := 1, shortRecords := 0, emptyRecords := 0, forcedCloses := 0 }

/-- The Scan Assembler after power-on or RESET (R49), the vision state following the vision-present sample (R41). -/
def Assembler.initial (visionPresent : Bool) : Assembler :=
  { currentLug := none, boardPresent := false, cleared := false, headsReceived := List.replicate 11 false,
    held := none, answered := false, vision := if visionPresent then .contextPending else .absent, context := 0,
    misses := 0, headMisses := List.replicate 11 0, badFrames := List.replicate 12 0, eyeDisagree := 0, late := 0,
    stale := 0, visionFaults := 0, visionMisses := 0, unexpected := 0, contextsSent := [] }

/-- The Tracking Table after power-on or RESET (R68). -/
def Tracking.initial : Tracking := { boards := [], notCommitted := 0 }

/-- The Frame Chain after power-on or RESET (R87). -/
def Frames.initial (base : List Nat) : Frames :=
  { base := base, run := none, holds := [], generation := 0, nextCode := 1 }

/-- An ABSENT value table entry with value 0 (R105). -/
def ValueEntry.empty : ValueEntry := { state := .absent, value := 0 }

/-- The Trim Solver after power-on or RESET (R110). -/
def Solver.initial : Solver :=
  { queue := [], inProgress := none, run := none, values := List.replicate Config.valueEntries ValueEntry.empty,
    completed := 0, highWater := 0 }

/-- A station after power-on or RESET (R127). -/
def Station.initial (option : Retrigger) : Station :=
  { selection := none, last := none, buffer := [], discard := false, output := [], sending := false,
    retrigger := option, records := 0, syntaxCount := 0, overruns := 0, messagesLost := 0 }

/-- All 18 trimmer lines inactive (R129). -/
def TrimLines.inactive : TrimLines := { saws := 0, tag := 0, dv := false }

/-- The Trimmer Port after power-on or RESET (R141). -/
def Trimmer.initial (mode : Handshake) (width : Nat) : Trimmer :=
  { presented := none, onLines := false, staged := none, phase := .ready, mode := mode, width := width,
    lines := TrimLines.inactive, lastTag := 0, accepted := 0, overruns := 0, deadlines := 0, handshakeFaults := 0,
    representations := 0 }

/-- The Sorter Port after power-on or RESET (R144, R145). -/
def Sorter.initial (bins : List (ProductKey × Nat)) (defaultBin : Nat) : Sorter :=
  { bins := bins, defaultBin := defaultBin, strobe := .idle, waiting := none, delivered := 0, overruns := 0 }

/-- An emptied tally counter (R146). -/
def Counter.zero : Counter := { value := 0, saturated := false }

/-- An emptied account. -/
def Account.zero : Account := { count := Counter.zero, twelfths := Counter.zero }

/-- An emptied log tally class. -/
def LogClass.zero : LogClass :=
  { logs := Counter.zero, volume := Counter.zero, boards := Counter.zero, twelfths := Counter.zero }

/-- The live tally with nothing counted (R156 step 3, R168 step 6). -/
def LiveTally.empty : LiveTally :=
  { body := { bins := [], chips := Counter.zero, missed := Counter.zero, lost := Counter.zero,
              overflow := Account.zero, unattributed := Account.zero, classes := List.replicate 16 LogClass.zero },
    fullFault := false, widthFault := false }

/-- An erased block of role JOURNAL that holds nothing. -/
def Block.blank : Block :=
  { headerOk := true, eraseCount := 0, role := .journal, records := [], state := .free }

/-- The Tally Store over given blocks, with nothing queued (R169). -/
def Store.initial (blocks : List Block) : Store :=
  { blocks := blocks, queue := [], inFlight := none, erasing := none, reclaimAgain := false, deferred := false,
    relocationDue := false, conditionFull := false, warned := false, skipped := 0, nextSeq := 1 }

/-- An EMPTY watch slot (R177). -/
def WatchSlot.cleared : WatchSlot :=
  { state := .empty, program := none, hits := 0, lastHit := none, captureLost := false }

/-- The Watch Unit after power-on or RESET (R177). -/
def Watch.initial : Watch :=
  { slots := List.replicate Config.watchSlots WatchSlot.cleared, captures := [], discarded := 0 }

/-- The framer in HUNT with its buffer empty (R188). -/
def Framer.hunt : Framer := { receiving := false, buffer := [], escaped := false }

/-- The Line Link after power-on or RESET (R188). -/
def Link.initial : Link :=
  { framer := Framer.hunt, replies := [], notices := [], sending := none, noticeTag := 0, droppedSince := 0,
    checkFails := 0, badLengths := 0, brokenFrames := 0, replyOverruns := 0, reportsDropped := 0, noticesDropped := 0,
    scanners := List.replicate 13 none, scannerFails := List.replicate 13 0 }

/-- The processor with its working state at the power-on values (R14, R29, R49, R68, R87, R110, R127, R141,
R145, R177, R188), given where it stands, its inputs, its settings, what the restore gave, and its queue. -/
def State.initial (power : Power) (pins : Pins) (start : StartInfo) (i : Settings) (vision : Bool)
    (tally : Tally) (store : Store) (pending : List Instr) : State :=
  { power := power, pins := pins, start := start, chain := Chain.initial i.line, logs := LogScaler.initial,
    scan := Assembler.initial vision, track := Tracking.initial, frames := Frames.initial i.base,
    solver := Solver.initial, stationA := Station.initial i.retriggerA, stationB := Station.initial i.retriggerB,
    trimmer := Trimmer.initial i.mode i.width, sorter := Sorter.initial i.bins i.defaultBin, tally := tally,
    store := store, watch := Watch.initial, link := Link.initial, pending := pending }

/-- The Tally Unit of an empty store (R159). -/
def Tally.initial (interval : Nat) : Tally :=
  { period := 1, live := LiveTally.empty, orders := [], accepted := 0, interval := interval }

/-- The machine right after reset: STARTING with cause POWER_ON (R186, R187 steps 1 to 4) on a flash that holds
nothing, every input inactive, no command waiting (DESIGN CHOICE, log entry 2; unsafe). -/
def State.reset : State :=
  State.initial (.starting .powerOn) Pins.low { restored := true, settingsSaved := false, outcome := .none } Settings.builtIn false
    (Tally.initial Config.defaultInterval) (Store.initial (List.replicate Config.flashBlocks Block.blank)) []

end Sys2Proof.Machine
end

