-- ==== Sys2Proof/Machine/Flash.lean ====
section
/-! DEFINITION. What the flash blocks hold and what the store looks up in them: newest valid records (R160), block
choice by wear (R161, R164, R166), room in a block, and the reclaimable blocks (R165). -/

namespace Sys2Proof.Machine

/-- The number of blocks in a state. -/
def Store.countIn (x : Store) (b : BlockState) : Nat := (x.blocks.filter fun k => k.state == b).length

/-- The highest erase count among all blocks (R166). -/
def Store.highestErase (x : Store) : Nat := (x.blocks.map Block.eraseCount).foldl max 0

/-- The lowest erase count among all blocks. -/
def Store.lowestErase (x : Store) : Nat := (x.blocks.map Block.eraseCount).foldl min x.highestErase

/-- The STATIC block, by its number. -/
def Store.staticBlock (x : Store) : Option Nat := x.blocks.findIdx? fun b => b.state == .static

/-- The erase count of a block. -/
def Store.eraseOf (x : Store) (i : Nat) : Nat := (x.blocks[i]?).elim 0 Block.eraseCount

/-- The kind of a record, which its body's form shows (R160). -/
def StoreBody.kind : StoreBody → RecordKind
  | .checkpoint _ => .checkpoint
  | .period _ => .period
  | .settings _ => .settings

/-- The check word of a body under a sequence number, over the kind, the sequence number and the body (R160). -/
def StoreBody.checkWord (body : StoreBody) (seq : BitVec 32) : Nat := Config.checkWord body.kind seq body

/-- A record written whole: its check word, and its completion mark last (R160). -/
def StoreRecord.written (body : StoreBody) (seq : BitVec 32) : StoreRecord :=
  { body := body, seq := seq, check := body.checkWord seq, mark := true }

/-- A record is valid when its completion mark is present and its check word agrees with its kind, sequence number and body as
read; any other is torn (R160). -/
def StoreRecord.valid (r : StoreRecord) : Bool := r.mark && r.check == r.body.checkWord r.seq

/-- Every valid record of the flash. -/
def validRecords (blocks : List Block) : List StoreRecord := (blocks.flatMap Block.records).filter StoreRecord.valid

/-- The body of a record is a checkpoint. -/
def StoreRecord.isCheckpoint (r : StoreRecord) : Bool :=
  match r.body with
  | .checkpoint _ => true
  | _ => false

/-- The body of a record is a period record. -/
def StoreRecord.isPeriod (r : StoreRecord) : Bool :=
  match r.body with
  | .period _ => true
  | _ => false

/-- The body of a record is a settings image. -/
def StoreRecord.isSettings (r : StoreRecord) : Bool :=
  match r.body with
  | .settings _ => true
  | _ => false

/-- The record of the highest sequence number in a list: the newest (R160; its wrap, log entry 20). -/
def newestOf : List StoreRecord → Option StoreRecord
  | [] => none
  | r :: rest =>
    match newestOf rest with
    | none => some r
    | some x => if r.seq.toNat ≤ x.seq.toNat then some x else some r

/-- The newest valid checkpoint. -/
def newestCheckpoint (blocks : List Block) : Option StoreRecord :=
  newestOf ((validRecords blocks).filter StoreRecord.isCheckpoint)

/-- The newest valid period record. -/
def newestPeriod (blocks : List Block) : Option StoreRecord :=
  newestOf ((validRecords blocks).filter StoreRecord.isPeriod)

/-- The newest valid settings record. -/
def newestSettings (blocks : List Block) : Option StoreRecord :=
  newestOf ((validRecords blocks).filter StoreRecord.isSettings)

/-! ### Sizes (R160) -/

/-- The bytes of a tally's counters with a number of bins: bin count, bins, three board counts, two accounts,
sixteen classes. -/
def tallyBytes (bins : Nat) : Nat := 2 + 14 * bins + 3 * 5 + 2 * 11 + 16 * 22

/-- The bytes of a checkpoint with given numbers of bins and orders. -/
def checkpointBytes (bins orders : Nat) : Nat := 2 + 3 + tallyBytes bins + 2 + 1 + 17 * orders

/-- The body length of a record, its fields taken at the lengths R190 gives them and each order at its longest (DESIGN CHOICE, log entry 13; unsafe). -/
def bodyBytes : StoreBody → Nat
  | .checkpoint c => checkpointBytes c.live.body.bins.length c.orders.length
  | .period r => 2 + 3 + tallyBytes r.body.bins.length
  | .settings i => 10 + 27 + 2 + 2 + (1 + 3 * i.bins.length) + 1 + 1

/-- The space of a body's record: the body's length plus 16 bytes, rounded up to a multiple of 64 (R160). -/
def recordSpace (bytes : Nat) : Nat := (bytes + 16 + 63) / 64 * 64

/-- The space a record takes. -/
def StoreRecord.space (r : StoreRecord) : Nat := recordSpace (bodyBytes r.body)

/-- The space of the largest record: a checkpoint with 256 bins and 32 orders (R160). -/
def largestSpace : Nat := recordSpace (checkpointBytes Config.tallyBins Config.orderRecords)

/-- The bytes of a block that its header and records take. -/
def Block.used (b : Block) : Nat := Config.headerBytes + (b.records.map StoreRecord.space).sum

/-- The block has room for so many bytes after its last record, valid or torn (R161). -/
def Block.hasRoom (b : Block) (space : Nat) : Bool := decide (b.used + space ≤ Config.blockBytes)

/-! ### Choosing a block -/

/-- The ACTIVE block, by its number. -/
def Store.activeBlock (x : Store) : Option Nat := x.blocks.findIdx? fun b => b.state == .active

/-- The FREE blocks with their numbers and erase counts, lowest number first. -/
def Store.freeBlocks (x : Store) : List (Nat × Nat) :=
  x.blocks.zipIdx.filterMap fun p => if p.1.state = .free then some (p.2, p.1.eraseCount) else none

/-- The FREE block with the lowest erase count, ties to the lowest number (R161). -/
def Store.leastWornFree (x : Store) : Option Nat :=
  (x.freeBlocks.foldl (fun best p => match best with
    | none => some p
    | some q => if p.2 < q.2 then some p else some q) none).map Prod.fst

/-- The FREE block with the highest erase count, ties to the lowest number (R164; for a relocation DESIGN CHOICE, log
entry 34). -/
def Store.mostWornFree (x : Store) : Option Nat :=
  (x.freeBlocks.foldl (fun best p => match best with
    | none => some p
    | some q => if q.2 < p.2 then some p else some q) none).map Prod.fst

/-- The store with block `i` changed. -/
def Store.modifyBlock (x : Store) (i : Nat) (f : Block → Block) : Store := { x with blocks := x.blocks.modify i f }

/-- A block erased, with its erase count incremented and its header written with role JOURNAL: FREE (R165). -/
def Block.erased (b : Block) : Block :=
  { headerOk := true, eraseCount := b.eraseCount + 1, role := .journal, records := [], state := .free }

/-- A record appended to a block. -/
def Block.append (b : Block) (r : StoreRecord) : Block := { b with records := b.records ++ [r] }

/-! ### Reclaim (R165) -/

/-- A valid period record is one of the 32 newest. -/
def keptPeriod (blocks : List Block) (r : StoreRecord) : Bool :=
  decide (((validRecords blocks).filter fun x => x.isPeriod && decide (r.seq.toNat < x.seq.toNat)).length
    < Config.periodsKept)

/-- A record that is still needed: the newest valid checkpoint, one of the 32 newest valid period records, or the
newest valid settings record. -/
def neededRecord (blocks : List Block) (r : StoreRecord) : Bool :=
  r.valid &&
    match r.body with
    | .checkpoint _ => decide ((newestCheckpoint blocks).map StoreRecord.seq = some r.seq)
    | .period _ => keptPeriod blocks r
    | .settings _ => decide ((newestSettings blocks).map StoreRecord.seq = some r.seq)

/-- A FULL block none of whose records is still needed. -/
def reclaimable (blocks : List Block) (b : Block) : Bool :=
  b.state == .full && !(b.records.any (neededRecord blocks))

/-- The lowest reclaimable block from number `i` on. -/
def Store.nextReclaim (x : Store) (i : Nat) : Option Nat :=
  ((x.blocks.drop i).findIdx? (reclaimable x.blocks)).map (· + i)

/-! ### Relocation (R166) -/

/-- A relocation is wanted: the highest erase count exceeds the STATIC block's by more than 200. -/
def Store.relocationWanted (x : Store) : Bool :=
  match x.staticBlock with
  | some i => decide (Config.wearLag < x.highestErase - x.eraseOf i)
  | none => false

/-- A relocate static stands in the queue. -/
def Store.relocateQueued (x : Store) : Bool := x.queue.any fun op => op == .relocate

/-- A block is FREE. -/
def Store.anyFree (x : Store) : Bool := x.blocks.any fun b => b.state == .free

end Sys2Proof.Machine
end

