-- ==== Sys2Proof/Machine/Limits.lean ====
section
/-! DEFINITION. The effective value of each grading limit under the frame chain (R73). -/

namespace Sys2Proof.Machine

/-- The effective value of a limit with no HOLD frame standing: the RUN frame's entry, else BASE (R73). -/
def Frames.belowHolds (f : Frames) (n : Nat) : Nat :=
  match f.run.bind fun es => es.find? fun e => e.1 == n with
  | some e => e.2
  | none => f.base.getD n 0

/-- The effective value of a limit: the newest frame that defines it (R73). -/
def Frames.effective (f : Frames) (n : Nat) : Nat :=
  match f.holds.getLast? with
  | some h => if n = 25 then h.ceiling else f.belowHolds n
  | none => f.belowHolds n

/-- The 27 effective values in limit number order (R73). -/
def Frames.limits (f : Frames) : List Nat := (List.range 27).map f.effective

end Sys2Proof.Machine
end

