-- ==== Sys2Proof/Machine/Bytes.lean ====
section
/-! DEFINITION. Bytes and byte order: numbers on a link are unsigned with the most significant byte first
(R190), the check of a Line Link frame, and the escaping of its bytes (R178). -/

namespace Sys2Proof.Machine

/-- The number a list of bytes spells, most significant byte first (R190). -/
def numberOf (bs : List Byte) : Nat := bs.foldl (fun n b => n * 256 + b.toNat) 0

/-- The low `k` bytes of a number, most significant byte first (R190). -/
def bytesOf : Nat → Nat → List Byte
  | 0, _ => []
  | k + 1, n => bytesOf k (n / 256) ++ [BitVec.ofNat 8 n]

/-- Byte `i` of a body as a number; 0 past its end. -/
def byteAt (bs : List Byte) (i : Nat) : Nat := (bs.getD i 0).toNat

/-- The number in the `k` bytes from byte `i` of a body. -/
def fieldAt (bs : List Byte) (i k : Nat) : Nat := numberOf ((bs.drop i).take k)

/-- One bit into the check register: polynomial 1021h, most significant bit first (R178). -/
def crcBit (c : BitVec 16) (b : Bool) : BitVec 16 :=
  if c.msb != b then (c <<< 1) ^^^ 0x1021#16 else c <<< 1

/-- One byte into the check register (R178). -/
def crcByte (c : BitVec 16) (b : Byte) : BitVec 16 :=
  [7, 6, 5, 4, 3, 2, 1, 0].foldl (fun c i => crcBit c (b.getLsbD i)) c

/-- The check over a frame's length, type, tag and body: initial value FFFFh, no final inversion (R178). -/
def crc16 (bs : List Byte) : BitVec 16 := bs.foldl crcByte 0xFFFF#16

/-- The start byte of a frame (R178). -/
def startByte : Byte := 0x7E#8
/-- The escape byte (R178). -/
def escapeByte : Byte := 0x7D#8

/-- A byte as it is sent between the start byte and the end of the check (R178). -/
def escapeOne (b : Byte) : List Byte :=
  if b = startByte ∨ b = escapeByte then [escapeByte, b ^^^ 0x20#8] else [b]

/-- The content of a frame before its check: length, type, tag, body (section 12.2). -/
def frameContent (type tag : Byte) (body : List Byte) : List Byte :=
  bytesOf 2 body.length ++ [type, tag] ++ body

/-- A frame as it stands on the line, escaped, with its check (R178, R181). -/
def wireFrame (type tag : Byte) (body : List Byte) : List Byte :=
  let content := frameContent type tag body
  startByte :: (content ++ bytesOf 2 (crc16 content).toNat).flatMap escapeOne

/-- The sync byte of a scanner record (section 12.8). -/
def syncByte : Byte := 0xA5#8

/-- The check byte of a scanner record: the sum, modulo 256, of the bytes between sync and check (R189). -/
def sumCheck (bs : List Byte) : Byte := bs.foldl (· + ·) 0

/-- The low byte of a lug number: the lug tag of head and defect frames (section 3.1). -/
def lugTag (l : Lug) : Byte := BitVec.ofNat 8 l.toNat

/-- The low six bits of a lug number: the lug tag on the trimmer's lines (R129). -/
def trimTag (l : Lug) : BitVec 6 := BitVec.ofNat 6 l.toNat

/-- Decimal digits of a number, `k` of them, most significant first. -/
def digitsOf : Nat → Nat → List Nat
  | 0, _ => []
  | k + 1, n => digitsOf k (n / 10) ++ [n % 10]

/-- `k` packed-decimal bytes of a number (R190). -/
def packedOf : Nat → Nat → List Byte
  | 0, _ => []
  | k + 1, n => packedOf k (n / 100) ++ [BitVec.ofNat 8 (n / 10 % 10 * 16 + n % 10)]

end Sys2Proof.Machine
end

