-- ==== Sys2Proof/Machine/Ops.lean ====
section
/-! DEFINITION. The operations every block shares: saturating counts, lug counters (R7 to R9), the notice
queue and the transmitter (R181 to R183), the output queue of a station (R114), the record of a board, and
the display (R121, R122). -/

namespace Sys2Proof.Machine

/-- A count of 0 to 65535 incremented, saturating at 65535. -/
def satInc (n : Nat) : Nat := min (n + 1) Config.countMax

/-- The counts of a list with count `i` incremented, saturating. -/
def bumpAt (l : List Nat) (i : Nat) : List Nat := l.modify i satInc

/-! ### Lug counters -/

/-- A trigger (R8). -/
def LugCounter.trigger (c : LugCounter) : LugCounter :=
  if c.running then
    match c.retrigger with
    | .reload => { c with remaining := c.reload }
    | .ignore => c
  else { c with remaining := c.reload, running := true }

/-- A stop (R8). -/
def LugCounter.stop (c : LugCounter) : LugCounter :=
  { c with remaining := 0, running := false, expiryPending := false }

/-- A gated boundary (R9): a RUNNING counter counts down, and expires to IDLE with its expiry pending when its
remaining count reaches 0. -/
def LugCounter.countDown (c : LugCounter) : LugCounter :=
  if c.running then
    if c.remaining ≤ 1 then { c with remaining := 0, running := false, expiryPending := true }
    else { c with remaining := c.remaining - 1 }
  else c

/-- The owner has serviced the expiry (R9). -/
def LugCounter.serviced (c : LugCounter) : LugCounter := { c with expiryPending := false }

/-! ### Notices and replies -/

/-- Whether a notice is a BOARD REPORT. -/
def Notice.isReport : Notice → Bool
  | .boardReport _ => true
  | _ => false

/-- How many notices at the head of the queue are being sent. -/
def Link.begun (l : Link) : Nat :=
  match l.sending with
  | some (.notice _) => 1
  | _ => 0

/-- The place of the oldest BOARD REPORT whose sending has not begun (R182). -/
def Link.evictable (l : Link) : Option Nat :=
  ((l.notices.drop l.begun).findIdx? Notice.isReport).map (· + l.begun)

/-- The admission of a notice (R182). -/
def Link.queueNotice (n : Notice) (l : Link) : Link :=
  if l.notices.length < Config.noticeCapacity then { l with notices := l.notices ++ [n] }
  else if n.isReport then
    { l with droppedSince := satInc l.droppedSince, reportsDropped := satInc l.reportsDropped }
  else
    match l.evictable with
    | some i =>
      { l with notices := l.notices.eraseIdx i ++ [n], droppedSince := satInc l.droppedSince,
               reportsDropped := satInc l.reportsDropped }
    | none => { l with noticesDropped := satInc l.noticesDropped }

/-- A notice with its dropped field written, when it is a BOARD REPORT (R183). -/
def Notice.withDropped (k : Nat) : Notice → Notice
  | .boardReport r => .boardReport { r with dropped := k }
  | n => n

/-- The transmitter takes up the next frame when it is idle (R181): the oldest reply, else the oldest notice
under the notice tag, with the dropped field of a BOARD REPORT written as it begins (R183). -/
def Link.takeUp (l : Link) : Link :=
  match l.sending with
  | some _ => l
  | none =>
    match l.replies, l.notices with
    | _ :: _, _ => { l with sending := some .reply }
    | [], n :: rest =>
      { l with sending := some (.notice l.noticeTag), noticeTag := l.noticeTag + 1,
               notices := n.withDropped l.droppedSince :: rest,
               droppedSince := if n.isReport then 0 else l.droppedSince }
    | [], [] => l

/-- The last byte of the frame being sent has gone (R181): it leaves its queue. -/
def Link.frameDone (l : Link) : Link :=
  match l.sending with
  | some .reply => { l with replies := l.replies.tail, sending := none }
  | some (.notice _) => { l with notices := l.notices.tail, sending := none }
  | none => l

/-- A reply placed at the young end of the reply queue (R180). -/
def Link.putReply (r : Reply) (l : Link) : Link := { l with replies := l.replies ++ [r] }

/-- A notice handed to the Line Link. -/
def State.notify (n : Notice) (s : State) : State := s.setLink (s.link.queueNotice n)

/-- A FAULT notice handed to the Line Link. -/
def State.notifyFault (f : FaultNotice) (s : State) : State := s.notify (.fault f)

/-! ### Station output -/

/-- Whether a line is a display line. -/
def StationLine.isDisplay : StationLine → Bool
  | .display _ => true
  | _ => false

/-- The reply and message lines a station's output queue holds, the one being sent among them (R112, R114; DEDUCED, log
entry 6). -/
def Station.lineCount (x : Station) : Nat := (x.output.filter (fun l => !l.isDisplay)).length

/-- A reply line placed at the young end (R114). -/
def Station.putReply (r : StationReply) (x : Station) : Station := { x with output := x.output ++ [.reply r] }

/-- How many lines at the head of the queue are being sent. -/
def Station.begun (x : Station) : Nat := if x.sending then 1 else 0

/-- A display line placed: it replaces the content of the one whose sending has not begun, or goes to the
young end (R114). -/
def Station.putDisplay (d : DisplayLine) (x : Station) : Station :=
  let sent := x.output.take x.begun
  let waiting := x.output.drop x.begun
  if waiting.any StationLine.isDisplay then
    { x with output := sent ++ waiting.map (fun l => if l.isDisplay then .display d else l) }
  else { x with output := x.output ++ [.display d] }

/-- A message line placed at the young end, or lost (R114). -/
def Station.putMessage (l : StationLine) (x : Station) : Station :=
  if x.lineCount < Config.stationLines then { x with output := x.output ++ [l] }
  else { x with messagesLost := satInc x.messagesLost }

/-- The sending of the oldest line begins (R114). -/
def Station.takeUp (x : Station) : Station := { x with sending := !x.output.isEmpty }

/-- The last character of the line being sent has gone (R114). -/
def Station.lineDone (x : Station) : Station :=
  if x.sending then { x with output := x.output.tail, sending := false } else x

/-- A station by its name. -/
def State.station (s : State) : StationId → Station
  | .a => s.stationA
  | .b => s.stationB

/-- `s` with another record of one station. -/
def State.setStation (s : State) (st : StationId) (x : Station) : State :=
  match st with
  | .a => s.setStationA x
  | .b => s.setStationB x

/-- The other station. -/
def otherStation : StationId → StationId
  | .a => .b
  | .b => .a

/-! ### Board records -/

/-- The record of a board, by its lug number. -/
def State.board? (s : State) (lug : Lug) : Option Board := s.track.boards.find? (fun b => b.lug == lug)

/-- The board's record changed; the other records stay. -/
def State.updateBoard (s : State) (lug : Lug) (f : Board → Board) : State :=
  s.setTrack { s.track with boards := s.track.boards.map (fun b => if b.lug = lug then f b else b) }

/-- A board's window at a station. -/
def Board.window (b : Board) : StationId → Window
  | .a => b.windowA
  | .b => b.windowB

/-- The board with its window at a station changed. -/
def Board.setWindow (b : Board) (st : StationId) (w : Window) : Board :=
  match st with
  | .a => { b with windowA := w }
  | .b => { b with windowB := w }

/-! ### The display -/

/-- The board a station's display shows: the selection, else the last board (R121). -/
def Station.shown (x : Station) : Option Lug := x.selection.orElse (fun _ => x.last)

/-- The HOLD frames a station owns, oldest first. -/
def Frames.ownedBy (f : Frames) (st : StationId) : List Hold := f.holds.filter (fun h => h.owner = st)

/-- The display line of a station as the state stands (R121). -/
def State.displayLine (s : State) (st : StationId) : DisplayLine :=
  { board := (s.station st).shown.bind fun lug => (s.board? lug).map fun b =>
      { lug := lug, selected := (s.station st).selection.isSome, state := b.state, decision := b.decision,
        override := b.override, flags := b.flags }
    holds := (s.frames.ownedBy st).map fun h => (h.code, h.ceiling) }

/-- A refresh of a station's display (R122). -/
def State.refresh (s : State) (st : StationId) : State :=
  s.setStation st ((s.station st).putDisplay (s.displayLine st))

/-- A refresh of each station whose display shows the board (R122). -/
def State.refreshShowing (s : State) (lug : Lug) : State :=
  let s := if s.stationA.shown = some lug then s.refresh .a else s
  if s.stationB.shown = some lug then s.refresh .b else s

/-! ### The end of an event -/

/-- What the two senders do when an event has been dealt with: each idle one takes up its next frame or line (DESIGN
CHOICE, log entry 5). -/
def State.takeUp (s : State) : State :=
  ((s.setLink s.link.takeUp).setStationA s.stationA.takeUp).setStationB s.stationB.takeUp

/-- Whether the processor takes link characters: STARTING or after it (R178). -/
def State.powered (s : State) : Bool :=
  match s.power with
  | .ready => true
  | .starting _ => true
  | _ => false

/-- An event that the processor takes once STARTING has ended, and not before (R187). -/
def State.whenReady (s : State) (f : State → State) : State :=
  if s.power = .ready then (f s).takeUp else s

/-- An event that the processor takes in STARTING as well. -/
def State.whenPowered (s : State) (f : State → State) : State :=
  if s.powered then (f s).takeUp else s

end Sys2Proof.Machine
end

