-- ==== Sys2Proof/Machine/Flags.lean ====
section
/-! DEFINITION. The sets of flags: board flags (R66), decision flags (R104) and log flags (section 2.1), their
bits in records and operands (R190), their union, and the flag letters of the display (R121). -/

namespace Sys2Proof.Machine

/-- The number whose bit k is the k-th mark of a list (R190: bit k set for member k). -/
def bitsOf : List Bool → Nat
  | [] => 0
  | b :: rest => (if b then 1 else 0) + 2 * bitsOf rest

/-- No board flag set (R51). -/
def BoardFlags.clear : BoardFlags :=
  { slipped := false, headMissing := false, clamped := false, geoOnly := false, noScan := false,
    runStraddle := false, notCommitted := false, trimOverrun := false, trimDeadline := false }

/-- No log flag set. -/
def LogFlags.clear : LogFlags :=
  { filled := false, clamped := false, countMismatch := false, short := false, forced := false }

/-- A decision flag set with none raised. -/
def DecisionFlags.clear : DecisionFlags :=
  { noRun := false, noPrice := false, tableLimited := false, orderExcluded := false, orderDiscount := false }

/-- The flags of either of two sets. -/
def DecisionFlags.union (x y : DecisionFlags) : DecisionFlags :=
  { noRun := x.noRun || y.noRun, noPrice := x.noPrice || y.noPrice,
    tableLimited := x.tableLimited || y.tableLimited, orderExcluded := x.orderExcluded || y.orderExcluded,
    orderDiscount := x.orderDiscount || y.orderDiscount }

/-- The board flags, bit 0 first (R190). -/
def BoardFlags.marks (f : BoardFlags) : List Bool :=
  [f.slipped, f.headMissing, f.clamped, f.geoOnly, f.noScan, f.runStraddle, f.notCommitted, f.trimOverrun,
   f.trimDeadline]

/-- The decision flags, bit 0 first (R190). -/
def DecisionFlags.marks (f : DecisionFlags) : List Bool :=
  [f.noRun, f.noPrice, f.tableLimited, f.orderExcluded, f.orderDiscount]

/-- The log flags, bit 0 first (R190, in the order of section 2.1). -/
def LogFlags.marks (f : LogFlags) : List Bool := [f.filled, f.clamped, f.countMismatch, f.short, f.forced]

/-- The board flags as a number. -/
def BoardFlags.bits (f : BoardFlags) : Nat := bitsOf f.marks
/-- The decision flags as a number. -/
def DecisionFlags.bits (f : DecisionFlags) : Nat := bitsOf f.marks
/-- The log flags as a number. -/
def LogFlags.bits (f : LogFlags) : Nat := bitsOf f.marks

/-- The board flags that the low bits of a number spell (R190). -/
def BoardFlags.ofBits (n : Nat) : BoardFlags :=
  { slipped := n.testBit 0, headMissing := n.testBit 1, clamped := n.testBit 2, geoOnly := n.testBit 3,
    noScan := n.testBit 4, runStraddle := n.testBit 5, notCommitted := n.testBit 6, trimOverrun := n.testBit 7,
    trimDeadline := n.testBit 8 }

/-- The decision flags that the low bits of a number spell (R190). -/
def DecisionFlags.ofBits (n : Nat) : DecisionFlags :=
  { noRun := n.testBit 0, noPrice := n.testBit 1, tableLimited := n.testBit 2, orderExcluded := n.testBit 3,
    orderDiscount := n.testBit 4 }

/-- Two sets have a member in common. -/
def marksMeet (x y : List Bool) : Bool := (x.zip y).any fun p => p.1 && p.2

/-- The board or decision flags named by a FLAGS condition are held, at least one of them (R172). -/
def flagsHeld (b : BoardFlags) (d : DecisionFlags) (wantB : BoardFlags) (wantD : DecisionFlags) : Bool :=
  marksMeet b.marks wantB.marks || marksMeet d.marks wantD.marks

end Sys2Proof.Machine
end

