-- ==== Sys2Proof/Machine/Operands.lean ====
section
/-! DEFINITION. The operands of the requests: for every request type of R191, the body lengths its layout
allows, and the fields its body spells with their ranges as the owning rule gives them. -/

namespace Sys2Proof.Machine

/-! ### Named bytes (R191) -/

/-- RELOAD, IGNORE. -/
def retriggerOf : Nat → Option Retrigger
  | 0 => some .reload
  | 1 => some .ignore
  | _ => none

/-- INTERLOCKED, PULSED. -/
def handshakeOf : Nat → Option Handshake
  | 0 => some .interlocked
  | 1 => some .pulsed
  | _ => none

/-- A flag or option byte: 00h for no, 01h for yes. -/
def flagOf : Nat → Option Bool
  | 0 => some false
  | 1 => some true
  | _ => none

/-- SOLVE, COMMIT, REPORT. -/
def pointOf : Nat → Option Point
  | 0 => some .solve
  | 1 => some .commit
  | 2 => some .report
  | _ => none

/-- LOCAL, GLOBAL. -/
def scopeOf : Nat → Option Scope
  | 0 => some .localRun
  | 1 => some .global
  | _ => none

/-- A, B, EITHER. -/
def watchStationOf : Nat → Option WatchStation
  | 0 => some .a
  | 1 => some .b
  | 2 => some .either
  | _ => none

/-! ### Product keys (R190) -/

/-- The product key that two bytes spell; R190 gives bit 3 no meaning, and it is not read (DESIGN CHOICE, log entry 21). -/
def keyOf (n : Nat) : ProductKey :=
  { species := n / 4096 % 16, thickness := n / 1024 % 4 + 1, grade := n / 128 % 8, length := n / 16 % 8 * 2 + 6,
    widthClass := n % 8 + 1 }

/-- The two bytes of a product key, as a number. -/
def keyBits (k : ProductKey) : Nat :=
  k.species % 16 * 4096 + (k.thickness - 1) % 4 * 1024 + k.grade % 8 * 128 + (k.length - 6) / 2 % 8 * 16 +
    (k.widthClass - 1) % 8

/-- Every field of the key lies in its range (R144, R150). -/
def ProductKey.inRange (k : ProductKey) : Bool :=
  decide (k.species ≤ 15) && decide (1 ≤ k.thickness ∧ k.thickness ≤ 4) && decide (1 ≤ k.grade ∧ k.grade ≤ 6) &&
    decide (6 ≤ k.length ∧ k.length ≤ 20 ∧ k.length % 2 = 0) && decide (1 ≤ k.widthClass ∧ k.widthClass ≤ 5)

/-! ### SET LINE (R10, R191) -/

/-- The eight fields of SET LINE, the tolerance as carried. -/
def setLineFields (body : List Byte) : LineConfig :=
  { pulses := fieldAt body 0 2, tolerance := fieldAt body 2 2, markA := byteAt body 4, markB := byteAt body 5,
    window := byteAt body 6, commit := byteAt body 7, deadline := byteAt body 8, sort := byteAt body 9 }

/-- The checks of R10. -/
def LineConfig.inRange (c : LineConfig) : Bool :=
  decide (64 ≤ c.pulses ∧ c.pulses ≤ 4096) && decide (c.tolerance ≤ c.pulses / 4) &&
    decide (1 ≤ c.markA ∧ c.markA ≤ 30) && decide (1 ≤ c.markB ∧ c.markB ≤ 30) &&
    decide (1 ≤ c.window ∧ c.window ≤ 10) && decide (max c.markA c.markB < c.commit ∧ c.commit ≤ 40) &&
    decide (c.commit < c.deadline ∧ c.deadline ≤ 50) && decide (c.deadline ≤ c.sort ∧ c.sort ≤ 62)

/-- The values in force: the tolerance field 0 becomes floor(P/16) (R10). -/
def LineConfig.inForce (c : LineConfig) : LineConfig :=
  if c.tolerance = 0 then { c with tolerance := c.pulses / 16 } else c

/-! ### Grading limits (R71) -/

/-- The greatest value of a limit. -/
def limitMax (n : Nat) : Nat :=
  if n ≤ 4 then 191 else if n ≤ 9 then 100 else if n ≤ 14 then 15 else if n ≤ 19 then 1 else if n ≤ 24 then 50 else 5

/-- The least value of a limit. -/
def limitMin (n : Nat) : Nat := if n ≤ 24 then 0 else 1

/-- A limit value clamped to its range (R71). -/
def clampLimit (n v : Nat) : Nat := max (limitMin n) (min v (limitMax n))

/-- The 27 values SET BASE RULES carries. -/
def baseFields (body : List Byte) : List Nat := (List.range 27).map (byteAt body)

/-- The 27 values clamped. -/
def clampBase (vs : List Nat) : List Nat := vs.zipIdx.map fun p => clampLimit p.2 p.1

/-! ### SAVE SETTINGS (R185) -/

/-- The fields of SAVE SETTINGS. -/
structure SaveFields where
  retriggerA : Retrigger
  retriggerB : Retrigger
  mode : Handshake
  width : Nat
  interval : Nat
deriving DecidableEq, Repr

/-- The fields of SAVE SETTINGS, absent when one lies outside its range. -/
def saveFields (body : List Byte) : Option SaveFields :=
  match retriggerOf (byteAt body 0), retriggerOf (byteAt body 1), handshakeOf (byteAt body 2) with
  | some ra, some rb, some m =>
    if 1 ≤ byteAt body 3 ∧ 1 ≤ byteAt body 4 then
      some { retriggerA := ra, retriggerB := rb, mode := m, width := byteAt body 3, interval := byteAt body 4 }
    else none
  | _, _, _ => none

/-! ### OPEN RUN (R93, R77) -/

/-- The fields of OPEN RUN. -/
structure OpenFields where
  run : Run
  keepPrices : Bool
  entries : List (Nat × Nat)
deriving DecidableEq, Repr

/-- K, as carried. -/
def openK (body : List Byte) : Nat := byteAt body 4
/-- The entry count E, as carried. -/
def openE (body : List Byte) : Nat := byteAt body (6 + 3 * openK body)

/-- The body length of OPEN RUN is the one its counts give: 7 + 3K + 2E. -/
def openLength (body : List Byte) : Bool :=
  decide (7 + 3 * openK body ≤ body.length) && decide (body.length = 7 + 3 * openK body + 2 * openE body)

/-- The width classes as carried. -/
def openClasses (body : List Byte) : List (Nat × Nat) :=
  (List.range (openK body)).map fun k => (byteAt body (5 + 3 * k), fieldAt body (6 + 3 * k) 2)

/-- The RUN frame entries as carried. -/
def openEntries (body : List Byte) : List (Nat × Nat) :=
  (List.range (openE body)).map fun k =>
    (byteAt body (7 + 3 * openK body + 2 * k), byteAt body (8 + 3 * openK body + 2 * k))

/-- A list of numbers strictly increases. -/
def strictlyIncreasing : List Nat → Bool
  | x :: y :: rest => decide (x < y) && strictlyIncreasing (y :: rest)
  | _ => true

/-- No number stands twice in a list. -/
def noRepeat : List Nat → Bool
  | [] => true
  | x :: rest => !rest.contains x && noRepeat rest

/-- The checks of R77 on the RUN frame entries. -/
def entriesOk (entries : List (Nat × Nat)) : Bool :=
  decide (entries.length ≤ 16) && entries.all (fun e => decide (e.1 ≤ 26)) && noRepeat (entries.map Prod.fst)

/-- The checks of R93 on the run record. -/
def Run.inRange (r : Run) : Bool :=
  decide (1 ≤ r.number) && decide (r.species ≤ 15) && decide (1 ≤ r.thickness ∧ r.thickness ≤ 4) &&
    decide (1 ≤ r.classes.length ∧ r.classes.length ≤ 5) &&
    r.classes.all (fun c => decide (c.1 % 2 = 0 ∧ 2 ≤ c.1 ∧ c.1 ≤ 16) && decide (c.2 ≤ 511)) &&
    strictlyIncreasing (r.classes.map Prod.snd)

/-- The fields of OPEN RUN, absent when a check of R93 or R77 fails. -/
def openFields (body : List Byte) : Option OpenFields :=
  let run : Run := { number := fieldAt body 0 2, species := byteAt body 2, thickness := byteAt body 3,
                     classes := openClasses body }
  match flagOf (byteAt body (5 + 3 * openK body)) with
  | some keep =>
    if run.inRange && entriesOk (openEntries body) then
      some { run := run, keepPrices := keep, entries := openEntries body }
    else none
  | none => none

/-- The RUN frame entries clamped (R77, R71). -/
def clampEntries (entries : List (Nat × Nat)) : List (Nat × Nat) := entries.map fun e => (e.1, clampLimit e.1 e.2)

/-! ### Prices (R106 to R108) -/

/-- The body length of PRICE SET is the one its count gives: 2 + 2n. -/
def priceSetLength (body : List Byte) : Bool :=
  decide (2 ≤ body.length) && decide (body.length = 2 + 2 * byteAt body 1)

/-- The first index and count of a PRICE request, absent when refused OUT_OF_RANGE (R106). -/
def priceRange (body : List Byte) : Option (Nat × Nat) :=
  let first := byteAt body 0
  let count := byteAt body 1
  if first ≤ 199 ∧ 1 ≤ count ∧ first + count ≤ 200 then some (first, count) else none

/-- The values of PRICE SET. -/
def priceValues (body : List Byte) : List Nat :=
  (List.range (byteAt body 1)).map fun k => fieldAt body (2 + 2 * k) 2

/-! ### Orders (R150, R151) -/

/-- The fields of ORDER SET. -/
structure OrderFields where
  key : ProductKey
  target : Nat
  action : OrderAction
deriving DecidableEq, Repr

/-- The action of ORDER SET; d is not used with EXCLUDE (R191). -/
def actionOf (action d : Nat) : Option OrderAction :=
  if action = 0 then some .exclude
  else if action = 1 ∧ d ≤ 100 then some (.discount d)
  else none

/-- The fields of ORDER SET, absent when refused OUT_OF_RANGE (R150). -/
def orderFields (body : List Byte) : Option OrderFields :=
  let key := keyOf (fieldAt body 0 2)
  let target := fieldAt body 2 5
  match actionOf (byteAt body 7) (byteAt body 8) with
  | some action =>
    if key.inRange ∧ 1 ≤ target ∧ target ≤ Config.digits10 then some { key := key, target := target, action := action }
    else none
  | none => none

/-- The key of ORDER CANCEL, absent when a field is out of range (R151). -/
def cancelKey (body : List Byte) : Option ProductKey :=
  let key := keyOf (fieldAt body 0 2)
  if key.inRange then some key else none

/-! ### The bin table (R144) -/

/-- What BIN SET carries. -/
inductive BinFields where
  | key (k : ProductKey) (bin : Nat)
  | default (bin : Nat)
deriving DecidableEq, Repr

/-- The fields of BIN SET, absent when refused OUT_OF_RANGE. -/
def binSetFields (body : List Byte) : Option BinFields :=
  let key := keyOf (fieldAt body 1 2)
  let bin := byteAt body 3
  match byteAt body 0 with
  | 0 => if key.inRange ∧ 1 ≤ bin ∧ bin ≤ 29 then some (.key key bin) else none
  | 1 => if 1 ≤ bin ∧ bin ≤ 30 then some (.default bin) else none
  | _ => none

/-- The fields of BIN CLEAR: a key, or the default selector. -/
inductive BinTarget where
  | key (k : ProductKey)
  | default
deriving DecidableEq, Repr

/-- The fields of BIN CLEAR, absent when the selector names no value (R191). R144 gives its key no range check: a
key out of range has no entry (DEDUCED, log entry 24). -/
def binClearFields (body : List Byte) : Option BinTarget :=
  let key := keyOf (fieldAt body 1 2)
  match byteAt body 0 with
  | 0 => some (.key key)
  | 1 => some .default
  | _ => none

/-! ### LOG CUT (R22) -/

/-- The fields of LOG CUT: log id, announced count, straggler length with 0 taken as 40. -/
def logCutFields (body : List Byte) : Option (Nat × Nat × Nat) :=
  let id := fieldAt body 0 2
  let straggler := byteAt body 3
  if 1 ≤ id ∧ straggler ≤ 200 then
    some (id, byteAt body 2, if straggler = 0 then Config.defaultStraggler else straggler)
  else none

/-! ### Tally reads (R157, R158) -/

/-- The part a tally read asks for. -/
inductive TallyPart where
  | product (first count : Nat)
  | accounts
deriving DecidableEq, Repr

/-- The part, first bin and count from byte `i` of a body, absent when refused OUT_OF_RANGE. -/
def tallyPart (body : List Byte) (i : Nat) : Option TallyPart :=
  match byteAt body i with
  | 0 =>
    let count := byteAt body (i + 2)
    if 1 ≤ count ∧ count ≤ 64 then some (.product (byteAt body (i + 1)) count) else none
  | 1 => some .accounts
  | _ => none

/-! ### Watches (R170, R172) -/

/-- The condition of a kind byte and its three operand bytes (R191), absent when out of range. -/
def conditionOf (kind operand : Nat) : Option Condition :=
  match kind with
  | 0 => if 1 ≤ operand ∧ operand ≤ 65535 then some (.log operand) else none
  | 1 => if operand ≤ 65535 ∧ (keyOf operand).inRange then some (.product (keyOf operand)) else none
  | 2 => if 1 ≤ operand ∧ operand ≤ 6 then some (.grade operand) else none
  | 3 => (watchStationOf operand).map .override
  | 4 => some .missed
  | 5 => some .chip
  | 6 =>
    let board := operand % 65536
    let decision := operand / 65536
    if operand ≠ 0 ∧ board < 512 ∧ decision < 32 then
      some (.flags (BoardFlags.ofBits board) (DecisionFlags.ofBits decision))
    else none
  | _ => none

/-- The slot and program of WATCH SET, absent when refused OUT_OF_RANGE (R170). -/
def watchFields (body : List Byte) : Option (Nat × WatchProgram) :=
  let slot := byteAt body 0
  match conditionOf (byteAt body 1) (fieldAt body 2 3), pointOf (byteAt body 5), scopeOf (byteAt body 6),
      flagOf (byteAt body 7), flagOf (byteAt body 8) with
  | some c, some p, some sc, some cap, some one =>
    if slot ≤ 3 ∧ ¬ (c = .missed ∧ p = .solve) then
      some (slot, { condition := c, point := p, scope := sc, capture := cap, oneShot := one })
    else none
  | _, _, _, _, _ => none

/-! ### Station records (R113) -/

/-- A station key with its fields. -/
inductive Key where
  | gradeMark (g : Nat)
  | trimMark (p q : Nat)
  | chip
  | release
  | older
  | hold (g n : Nat)
  | cancel
  | refresh
deriving DecidableEq, Repr

/-- The field checks of R113. -/
def Key.inRange : Key → Bool
  | .gradeMark g => decide (1 ≤ g ∧ g ≤ 5)
  | .trimMark p q => decide (p < q ∧ q ≤ 10 ∧ 3 ≤ q - p)
  | .hold g n => decide (1 ≤ g ∧ g ≤ 5) && decide (n ≤ 99999)
  | _ => true

/-- The lifetime of an H key clamped to 1 to 999 (R113). -/
def clampLifetime (n : Nat) : Nat := max 1 (min n 999)

/-- A record's characters split at its spaces. -/
def splitSpaces : List Byte → List (List Byte)
  | [] => [[]]
  | b :: rest =>
    if b = 0x20#8 then [] :: splitSpaces rest
    else
      match splitSpaces rest with
      | w :: ws => (b :: w) :: ws
      | [] => [[b]]

/-- A field: one to five digits (R113). -/
def digitsField (w : List Byte) : Option Nat :=
  if w.isEmpty ∨ 5 < w.length ∨ !(w.all fun b => decide (0x30 ≤ b.toNat ∧ b.toNat ≤ 0x39)) then none
  else some (w.foldl (fun n b => n * 10 + (b.toNat - 0x30)) 0)

/-- The key of a record, absent when a check of R113 fails: key letter, fields, spacing, ranges. -/
def parseRecord (record : List Byte) : Option Key :=
  let key : Option Key :=
    match splitSpaces record with
    | [[0x47#8], g] => (digitsField g).map .gradeMark
    | [[0x54#8], p, q] =>
      match digitsField p, digitsField q with
      | some p, some q => some (.trimMark p q)
      | _, _ => none
    | [[0x48#8], g, n] =>
      match digitsField g, digitsField n with
      | some g, some n => some (.hold g n)
      | _, _ => none
    | [[0x43#8]] => some .chip
    | [[0x52#8]] => some .release
    | [[0x50#8]] => some .older
    | [[0x58#8]] => some .cancel
    | [[0x3F#8]] => some .refresh
    | _ => none
  key.bind fun k => if k.inRange then some k else none

end Sys2Proof.Machine
end

