-- ==== Sys2Proof/Machine/Solve.lean ====
section
/-! DEFINITION. One solve of one board from what it took at its begin (R90): segment grades (R84, R85), the
candidates, their eligibility and score (R97 to R102), the saw mask (R103), and the paths of R96 and R109. -/

namespace Sys2Proof.Machine

/-! ### The grading limits (R71) -/

/-- MINTHK[g]. -/
def minThickness (limits : List Nat) (g : Nat) : Nat := limits.getD (g - 1) 0
/-- MAXWANE[g]. -/
def maxWane (limits : List Nat) (g : Nat) : Nat := limits.getD (4 + g) 0
/-- MAXDEFECT[g]. -/
def maxDefect (limits : List Nat) (g : Nat) : Nat := limits.getD (9 + g) 0
/-- SPLITOK[g]. -/
def splitOk (limits : List Nat) (g : Nat) : Bool := limits.getD (14 + g) 0 != 0
/-- ALLOWPCT[g]. -/
def allowPct (limits : List Nat) (g : Nat) : Nat := limits.getD (19 + g) 0
/-- CEILING. -/
def ceilingLimit (limits : List Nat) : Nat := limits.getD 25 1
/-- GEOCAP. -/
def geoCap (limits : List Nat) : Nat := limits.getD 26 1

/-- The grades that can be met, best first. -/
def gradeNumbers : List Nat := [1, 2, 3, 4, 5]

/-! ### Segment grades -/

/-- Grade g is met on thickness and wane (R84, R85). -/
def meetsGeometry (limits : List Nat) (x : Segment) (g : Nat) : Bool :=
  decide (minThickness limits g ≤ x.thickness) && decide (x.wane ≤ maxWane limits g)

/-- Grade g is met on the known defects (R84). -/
def meetsDefects (limits : List Nat) (x : Segment) (g : Nat) : Bool :=
  decide (x.defect.getD 0 ≤ maxDefect limits g) && (!(x.split.getD false) || splitOk limits g)

/-- The grade of one segment (R84, R85): absent unless its coverage is FULL; 6 (cull) when no grade is met. -/
def segmentGrade (limits : List Nat) (geoOnly : Bool) (x : Segment) : Option Nat :=
  match x.coverage with
  | .full =>
    if geoOnly then
      match gradeNumbers.find? (meetsGeometry limits x) with
      | some g => some (max g (geoCap limits))
      | none => some 6
    else
      match gradeNumbers.find? (fun g => meetsGeometry limits x g && meetsDefects limits x g) with
      | some g => some g
      | none => some 6
  | _ => none

/-- The segments with the grades of this solve (R96). -/
def gradeSegments (i : SolveInput) : List Segment :=
  i.segments.map fun x => { x with grade := segmentGrade i.limits i.geoOnly x }

/-! ### Candidates -/

/-- A candidate trim with the segments it keeps, graded: 2p to 2q - 1 (section 6.5). -/
structure Candidate where
  p : Nat
  q : Nat
  segments : List Segment
deriving DecidableEq, Repr

/-- The trim between saws p and q of graded segments. -/
def candidateOf (graded : List Segment) (p q : Nat) : Candidate :=
  { p := p, q := q, segments := (graded.drop (2 * p)).take (2 * q - 2 * p) }

/-- A candidate's length in feet: N = 2(q - p). -/
def Candidate.feet (c : Candidate) : Nat := 2 * (c.q - c.p)

/-- Every segment of the candidate is of coverage FULL. -/
def Candidate.allFull (c : Candidate) : Bool := c.segments.all fun x => x.coverage == .full

/-- No segment of the candidate has grade 6. -/
def Candidate.noCull (c : Candidate) : Bool := c.segments.all fun x => x.grade != some 6

/-- The width of a candidate: the smallest width among its segments (R98). -/
def Candidate.width (c : Candidate) : Nat :=
  (c.segments.map Segment.width).foldl min 511

/-- The width class: the largest class whose minimum actual width is at most the width, numbered from 1 (R98). -/
def widthClass (classes : List (Nat × Nat)) (width : Nat) : Option Nat :=
  ((List.range classes.length).reverse.find? fun k => decide ((classes.getD k (0, 0)).2 ≤ width)).map (· + 1)

/-- The nominal width of a class. -/
def nominalWidth (classes : List (Nat × Nat)) (c : Nat) : Nat := (classes.getD (c - 1) (0, 0)).1

/-- A segment's grade as a number; an ungraded one never lies in a piece (R85). -/
def gradeValue (x : Segment) : Nat := x.grade.getD 6

/-- Grade g qualifies for the candidate (R99). -/
def Candidate.qualifies (limits : List Nat) (c : Candidate) (g : Nat) : Bool :=
  c.segments.all (fun x => decide (gradeValue x ≤ g + 1)) &&
    decide ((c.segments.filter fun x => decide (g < gradeValue x)).length ≤ c.feet * allowPct limits g / 100) &&
    (c.segments.head?.elim false fun x => decide (gradeValue x ≤ g)) &&
    (c.segments.getLast?.elim false fun x => decide (gradeValue x ≤ g))

/-- The raw grade: the smallest that qualifies (R99). -/
def Candidate.rawGrade (limits : List Nat) (c : Candidate) : Option Nat := gradeNumbers.find? (c.qualifies limits)

/-- The station grade mark the solve took. -/
def SolveInput.gradeMark (i : SolveInput) : Option Nat := i.override.bind Override.grade

/-- The piece grade of a raw grade: the largest of the raw grade, CEILING, the grade mark, and GEOCAP when the
segments were graded from geometry alone (R99). -/
def pieceGrade (i : SolveInput) (raw : Nat) : Nat :=
  max (max raw (ceilingLimit i.limits))
    (max (i.gradeMark.getD 0) (if i.geoOnly then geoCap i.limits else 0))

/-- The value table index of grade, length and class (R105). -/
def valueIndex (grade length c : Nat) : Nat := 40 * (grade - 1) + 5 * ((length - 6) / 2) + (c - 1)

/-- A piece with its score, and whether its score was discounted (R101). -/
structure Scored where
  piece : Piece
  score : Nat
  discounted : Bool
deriving DecidableEq, Repr

/-- What the tables say of a candidate with a class and a grade: its score, or the flag that makes it
ineligible (R100, R101). -/
inductive Priced where
  | eligible (score : Nat) (discounted : Bool)
  | ineligible (flags : DecisionFlags)
deriving DecidableEq, Repr

/-- The order record of a key, FILLED, that the solve took. -/
def filledOrder (orders : List Order) (key : ProductKey) : Option OrderAction :=
  ((orders.find? fun o => o.key == key).bind fun o => if o.state = .filled then some o.action else none)

/-- The table tests and the score (R100, R101): price · t · w · N, discounted under a FILLED order; a discount of 100 counts as
one (DESIGN CHOICE, log entry 38). -/
def priceOf (values : List ValueEntry) (orders : List Order) (key : ProductKey) (width : Nat) : Priced :=
  let entry := values.getD (valueIndex key.grade key.length key.widthClass) ValueEntry.empty
  match entry.state with
  | .absent => .ineligible { DecisionFlags.clear with noPrice := true }
  | .withdrawn => .ineligible { DecisionFlags.clear with tableLimited := true }
  | .present =>
    let score := entry.value * key.thickness * width * key.length
    match filledOrder orders key with
    | some .exclude => .ineligible { DecisionFlags.clear with orderExcluded := true }
    | some (.discount d) => .eligible (score * d / 100) true
    | none => .eligible score false

/-- The product key of a candidate under a run (R100). -/
def candidateKey (run : Run) (c : Candidate) (grade cls : Nat) : ProductKey :=
  { species := run.species, thickness := run.thickness, grade := grade, length := c.feet, widthClass := cls }

/-- The outcome of one candidate on path 5: set aside with no flag, ineligible with a flag, or scored. -/
inductive CandidateOutcome where
  | setAside
  | flagged (flags : DecisionFlags)
  | scored (x : Scored)
deriving DecidableEq, Repr

/-- One candidate on path 5 (R97 to R101). -/
def evaluate (i : SolveInput) (run : Run) (c : Candidate) : CandidateOutcome :=
  if c.allFull && c.noCull then
    match widthClass run.classes c.width, c.rawGrade i.limits with
    | some cls, some raw =>
      let key := candidateKey run c (pieceGrade i raw) cls
      let width := nominalWidth run.classes cls
      match priceOf i.values i.orders key width with
      | .eligible score discounted =>
        .scored { piece := { p := c.p, q := c.q, key := key, width := width }, score := score, discounted := discounted }
      | .ineligible flags => .flagged flags
    | _, _ => .setAside
  else .setAside

/-- The 36 pairs (p, q) with 0 ≤ p < q ≤ 10 and q - p ≥ 3 (R97). -/
def trimPairs : List (Nat × Nat) :=
  (List.range 8).flatMap fun p => (List.range (8 - p)).map fun d => (p, p + 3 + d)

/-- Whether `x` is chosen over `y` (R102): higher score, then greater N, then better grade, then smaller p. -/
def betterThan (x y : Scored) : Bool :=
  let kx := x.piece.key
  let ky := y.piece.key
  if x.score ≠ y.score then decide (y.score < x.score)
  else if kx.length ≠ ky.length then decide (ky.length < kx.length)
  else if kx.grade ≠ ky.grade then decide (kx.grade < ky.grade)
  else decide (x.piece.p < y.piece.p)

/-- The chosen candidate of a list of scored ones (R102). -/
def chooseBest : List Scored → Option Scored
  | [] => none
  | x :: rest =>
    match chooseBest rest with
    | none => some x
    | some y => if betterThan y x then some y else some x

/-! ### The saw mask (R103) -/

/-- The set of saws S0 to S10 for which a test holds. -/
def sawSet (test : Nat → Bool) : BitVec 11 :=
  (List.range 11).foldl (fun m k => if test k then m ||| (1#11 <<< k) else m) 0#11

/-- Saw k stands over wood: a < 2k ≤ b for the extent a..b. -/
def overWood (extent : Option (Nat × Nat)) (k : Nat) : Bool :=
  match extent with
  | some (a, b) => decide (a < 2 * k) && decide (2 * k ≤ b)
  | none => false

/-- The mask of a CHIP of a board with an extent. -/
def chipMask (extent : Option (Nat × Nat)) : BitVec 11 := sawSet (overWood extent)

/-- The mask of a CHIP of a NO_SCAN board: all 11 saws. -/
def allSaws : BitVec 11 := sawSet fun _ => true

/-- The mask of a PIECE between saws p and q. -/
def pieceMask (extent : Option (Nat × Nat)) (p q : Nat) : BitVec 11 :=
  sawSet fun k => k == p || k == q || ((decide (k < p) || decide (q < k)) && overWood extent k)

/-! ### The decision -/

/-- A CHIP decision. -/
def chipDecision (mask : BitVec 11) (flags : DecisionFlags) (reason : Reason) : Decision :=
  { piece := none, score := 0, mask := mask, flags := flags, reason := reason }

/-- A PIECE decision. -/
def pieceDecision (extent : Option (Nat × Nat)) (piece : Piece) (score : Nat) (flags : DecisionFlags)
    (reason : Reason) : Decision :=
  { piece := some piece, score := score, mask := pieceMask extent piece.p piece.q, flags := flags, reason := reason }

/-- Path 5 of R96: the solver's own choice. -/
def decideByEnumeration (i : SolveInput) (run : Run) (graded : List Segment) (reason : Reason) : Decision :=
  let outcomes := trimPairs.map fun pq => evaluate i run (candidateOf graded pq.1 pq.2)
  let gathered := outcomes.foldl (fun f o => match o with
    | .flagged g => f.union g
    | _ => f) DecisionFlags.clear
  let scored := outcomes.filterMap fun o => match o with
    | .scored x => some x
    | _ => none
  match chooseBest scored with
  | some x =>
    if 0 < x.score then
      pieceDecision i.extent x.piece x.score { gathered with orderDiscount := x.discounted } reason
    else chipDecision (chipMask i.extent) gathered reason
  | none => chipDecision (chipMask i.extent) gathered reason

/-- Path 4 of R96 for a trim mark whose segments are all FULL: the one candidate, always a PIECE (R109). -/
def decideByMark (i : SolveInput) (run : Run) (c : Candidate) (reason : Reason) : Decision :=
  let raw := if c.noCull then c.rawGrade i.limits else none
  let grade := match raw with
    | some g => pieceGrade i g
    | none => 6
  match widthClass run.classes c.width with
  | none =>
    let key := candidateKey run c grade 1
    pieceDecision i.extent { p := c.p, q := c.q, key := key, width := nominalWidth run.classes 1 } 0
      DecisionFlags.clear reason
  | some cls =>
    let key := candidateKey run c grade cls
    let piece : Piece := { p := c.p, q := c.q, key := key, width := nominalWidth run.classes cls }
    if grade = 6 then pieceDecision i.extent piece 0 DecisionFlags.clear reason
    else
      match priceOf i.values i.orders key piece.width with
      | .eligible score discounted =>
        pieceDecision i.extent piece score { DecisionFlags.clear with orderDiscount := discounted } reason
      | .ineligible flags => pieceDecision i.extent piece 0 flags reason

/-- The course of one solve (R96): the first path whose condition holds. -/
def decisionOf (i : SolveInput) (reason : Reason) : Decision :=
  let graded := gradeSegments i
  if i.noScan then chipDecision allSaws { DecisionFlags.clear with noRun := i.run.isNone } reason
  else
    match i.run with
    | none => chipDecision (chipMask i.extent) { DecisionFlags.clear with noRun := true } reason
    | some run =>
      if i.override.elim false Override.chip then chipDecision (chipMask i.extent) DecisionFlags.clear reason
      else
        match i.override.bind Override.trim with
        | some (p, q) =>
          let c := candidateOf graded p q
          if c.allFull then decideByMark i run c reason else decideByEnumeration i run graded reason
        | none => decideByEnumeration i run graded reason

end Sys2Proof.Machine
end

