-- ==== Sys2Proof/Machine/Encode.lean ====
section
/-! DEFINITION. The layouts of what the processor sends (R190, section 12.9): reply codes and data, notices,
the thirteen sections of STATUS, captures, context records, and the text of a station line (R121). -/

namespace Sys2Proof.Machine

/-! ### Kinds of field (R190) -/

/-- An optional field whose range excludes 0: 0 when absent. -/
def encZeroAbsent (k : Nat) (x : Option Nat) : List Byte := bytesOf k (x.getD 0)

/-- Another optional field: a presence byte, then the field when present. -/
def encOptional {α : Type} (f : α → List Byte) : Option α → List Byte
  | none => [0]
  | some x => 1 :: f x

/-- A level, mark or option: 00h for no, 01h for yes (DEDUCED, log entry 22). -/
def encBool (b : Bool) : List Byte := if b then [1] else [0]

/-- A named value: one byte. -/
def encNamed (n : Nat) : List Byte := bytesOf 1 n

/-- A lug number: three bytes. -/
def encLug (l : Lug) : List Byte := bytesOf 3 l.toNat

/-- A product key: two bytes. -/
def encKey (k : ProductKey) : List Byte := bytesOf 2 (keyBits k)

/-- A decimal counter of 8 digits. -/
def encCounter8 (c : Counter) : List Byte := encBool c.saturated ++ packedOf 4 c.value
/-- A decimal counter of 10 digits. -/
def encCounter10 (c : Counter) : List Byte := encBool c.saturated ++ packedOf 5 c.value

/-- A list of varying length: a count of `k` bytes, then the items. -/
def encList {α : Type} (k : Nat) (f : α → List Byte) (xs : List α) : List Byte :=
  bytesOf k xs.length ++ xs.flatMap f

/-! ### Named values, numbered from 0 in the order their chapters list them -/

def ResetCause.number : ResetCause → Nat
  | .powerOn => 0
  | .reset => 1
def LineState.number : LineState → Nat
  | .running => 0
  | .stopped => 1
def LogState.number : LogState → Nat
  | .scanned => 0
  | .sawing => 1
  | .cut => 2
  | .draining => 3
def VisionState.number : VisionState → Nat
  | .absent => 0
  | .contextPending => 1
  | .online => 2
  | .offline => 3
def Coverage.number : Coverage → Nat
  | .full => 0
  | .part => 1
  | .none => 2
  | .unknown => 3
def Reason.number : Reason → Nat
  | .first => 0
  | .override => 1
  | .hold => 2
def Window.number : Window → Nat
  | .notYet => 0
  | .isOpen => 1
  | .closed => 2
def BoardState.number : BoardState → Nat
  | .assembling => 0
  | .solving => 1
  | .solved => 2
  | .committed => 3
  | .accepted => 4
  | .missed => 5
def OrderState.number : OrderState → Nat
  | .isOpen => 0
  | .filled => 1
/-- In the order of R105; the table of R100 lists PRESENT first (DESIGN CHOICE, log entry 56). -/
def ValueState.number : ValueState → Nat
  | .absent => 0
  | .present => 1
  | .withdrawn => 2
def Retrigger.number : Retrigger → Nat
  | .reload => 0
  | .ignore => 1
def Handshake.number : Handshake → Nat
  | .interlocked => 0
  | .pulsed => 1
def Phase.number : Phase → Nat
  | .ready => 0
  | .on => 1
  | .recovering => 2
def Strobe.number : Strobe → Nat
  | .idle => 0
  | .strobing _ _ => 1
  | .gap _ => 2
/-- In the order of R187; the table of R168 has it otherwise (DESIGN CHOICE, log entry 56). -/
def RestoreOutcome.number : RestoreOutcome → Nat
  | .none => 0
  | .checkpoint => 1
  | .period => 2
def StoreOp.number : StoreOp → Nat
  | .checkpoint => 0
  | .period _ => 1
  | .settings _ => 2
  | .relocate => 3
def Point.number : Point → Nat
  | .solve => 0
  | .commit => 1
  | .report => 2
def Scope.number : Scope → Nat
  | .localRun => 0
  | .global => 1
def SlotState.number : SlotState → Nat
  | .empty => 0
  | .armed => 1
  | .disarmed => 2
def WatchStation.number : WatchStation → Nat
  | .a => 0
  | .b => 1
  | .either => 2
def HoldCause.number : HoldCause → Nat
  | .created => 0
  | .expired => 1
  | .cancelled => 2
  | .runClosed => 3
def CaptureOutcome.number : CaptureOutcome → Nat
  | .stored => 0
  | .lost => 1
  | .none => 2
def RecordKind.number : RecordKind → Nat
  | .checkpoint => 0
  | .period => 1
  | .settings => 2
/-- Station A, Station B. -/
def stationNumber : StationId → Nat
  | .a => 0
  | .b => 1

/-- The byte of a reply code (R180). -/
def ReplyCode.toByte : ReplyCode → Byte
  | .accepted => 0x00
  | .acceptedClamped => 0x01
  | .unknownType => 0x80
  | .badLength => 0x81
  | .outOfRange => 0x82
  | .noRun => 0x83
  | .runOpen => 0x84
  | .state => 0x85
  | .tableFull => 0x86
  | .notFound => 0x87
  | .busy => 0x88
  | .notReady => 0x89
  | .stopped => 0x8A

/-- A reply's body: the code, then the data (R180). -/
def Reply.body (r : Reply) : List Byte := r.code.toByte :: r.data

/-! ### Orders and conditions -/

/-- An order's action, with d optional (R151). -/
def encAction : OrderAction → List Byte
  | .exclude => encNamed 0 ++ encOptional (bytesOf 1) (none : Option Nat)
  | .discount d => encNamed 1 ++ encOptional (bytesOf 1) (some d)

/-- An order record (R151). -/
def encOrder (o : Order) : List Byte :=
  encKey o.key ++ bytesOf 5 o.target ++ encCounter10 o.filled ++ encNamed o.state.number ++ encAction o.action

/-- The number of a condition kind, in the order of the R172 table. -/
def Condition.kindNumber : Condition → Nat
  | .log _ => 0
  | .product _ => 1
  | .grade _ => 2
  | .override _ => 3
  | .missed => 4
  | .chip => 5
  | .flags _ _ => 6

/-- A condition's operand in the three bytes of R191; a condition that has none is reported with 0 (DESIGN CHOICE, log entry
46). -/
def Condition.operand : Condition → Nat
  | .log id => id
  | .product k => keyBits k
  | .grade g => g
  | .override st => st.number
  | .missed => 0
  | .chip => 0
  | .flags b d => d.bits * 65536 + b.bits

/-! ### Notices (section 12.4) -/

/-- A FAULT notice's kind and fields. -/
def encFault : FaultNotice → List Byte
  | .lugSlip lug deviation early => encNamed 1 ++ encLug lug ++ bytesOf 2 deviation ++ encNamed (if early then 1 else 0)
  | .logShort n => encNamed 2 ++ bytesOf 1 n
  | .logEmpty n => encNamed 3 ++ bytesOf 1 n
  | .vision lug context => encNamed 4 ++ encLug lug ++ [context]
  | .visionOffline lug => encNamed 5 ++ encLug lug
  | .handshake lug tag => encNamed 6 ++ encLug lug ++ bytesOf 1 tag.toNat
  | .tallyFull key period => encNamed 7 ++ encKey key ++ bytesOf 2 period
  | .tallyWidth key bin piece => encNamed 8 ++ encKey key ++ bytesOf 1 bin ++ bytesOf 1 piece
  | .storeFull kind lug => encNamed 9 ++ encNamed kind.number ++ encLug lug

/-- A recovery record (R27). -/
def encRecovery (r : Recovery) : List Byte :=
  bytesOf 2 r.id ++ bytesOf 1 r.figures.length ++ bytesOf 2 r.figures.sed ++ bytesOf 2 r.figures.led ++
    bytesOf 3 r.figures.volume ++ bytesOf 2 r.figures.taper ++ bytesOf 1 r.figures.diameterClass ++
    encOptional (bytesOf 1) r.announced ++ bytesOf 2 r.seen ++ bytesOf 2 r.pieces ++ bytesOf 2 r.chips ++
    bytesOf 2 r.missedLost ++ bytesOf 4 r.twelfths ++ bytesOf 2 r.ratio ++ bytesOf 1 r.flags.bits

/-- The 32 bytes of a BOARD REPORT (section 12.9). With no decision, the score, the saw mask and the decision flags are 0
(DESIGN CHOICE, log entry 44). -/
def encReport (r : BoardReport) : List Byte :=
  let piece := r.decision.bind Decision.piece
  let mark := r.override.bind Override.trim
  encLug r.lug ++ encZeroAbsent 2 r.logId ++ encZeroAbsent 2 r.runAtSolve ++
    encNamed (if r.final = .missed then 1 else 0) ++
    encNamed (match r.decision with
      | none => 0
      | some d => if d.piece.isSome then 1 else 2) ++
    bytesOf 1 (piece.elim 0xFF Piece.p) ++ bytesOf 1 (piece.elim 0xFF Piece.q) ++
    bytesOf 1 (piece.elim 0 fun x => x.key.length) ++ bytesOf 1 (piece.elim 0 fun x => x.key.grade) ++
    bytesOf 1 (piece.elim 0 fun x => x.key.widthClass) ++ bytesOf 4 (r.decision.elim 0 Decision.score) ++
    bytesOf 2 (r.decision.elim 0 fun d => d.mask.toNat) ++ bytesOf 1 r.sort.bin ++ bytesOf 1 r.sort.stamp ++
    bytesOf 1 (r.override.elim 0 fun o => stationNumber o.owner + 1) ++
    encZeroAbsent 1 (r.override.bind Override.grade) ++
    bytesOf 1 (mark.elim 0xFF Prod.fst) ++ bytesOf 1 (mark.elim 0xFF Prod.snd) ++
    encBool (r.override.elim false Override.chip) ++ bytesOf 2 r.flags.bits ++
    bytesOf 1 (r.decision.elim 0 fun d => d.flags.bits) ++ bytesOf 2 r.dropped

/-- A notice's type byte (section 12.4). -/
def Notice.type : Notice → Byte
  | .ready .. => 0x60
  | .boardReport _ => 0x61
  | .logRecovery _ => 0x62
  | .orderFilled .. => 0x63
  | .hold .. => 0x64
  | .watchHit .. => 0x65
  | .fault _ => 0x66
  | .lineStopped _ => 0x67

/-- A notice's body: its fields in the order its rule lists them (R190). The owner of a HOLD notice is numbered among the
two stations (DESIGN CHOICE, log entry 37). -/
def Notice.body : Notice → List Byte
  | .ready cause vision saved outcome full period =>
    encNamed cause.number ++ encNamed vision.number ++ encNamed (if saved then 0 else 1) ++ encNamed outcome.number ++
      encNamed (if full then 1 else 0) ++ bytesOf 2 period
  | .boardReport r => encReport r
  | .logRecovery r => encRecovery r
  | .orderFilled key target filled action lug period =>
    encKey key ++ bytesOf 5 target ++ encCounter10 filled ++ encAction action ++ encOptional encLug lug ++
      bytesOf 2 period
  | .hold cause owner code ceiling reload remaining lug generation =>
    encNamed cause.number ++ encNamed (stationNumber owner) ++ bytesOf 1 code ++ bytesOf 1 ceiling ++
      bytesOf 2 reload ++ bytesOf 2 remaining ++ encLug lug ++ bytesOf 2 generation.toNat
  | .watchHit slot point condition board now hits outcome =>
    bytesOf 1 slot ++ encNamed point.number ++ encNamed condition.kindNumber ++ encLug board ++ encLug now ++
      bytesOf 2 hits ++ encNamed outcome.number
  | .fault f => encFault f
  | .lineStopped lug => encLug lug

/-- The frame the transmitter is sending, as it stands on the line (R181). The type of a reply is the request's with 80h added,
modulo 256 (R180; DESIGN CHOICE for a type of 80h or above, log entry 36). -/
def Link.onTheLine (l : Link) : Option (List Byte) :=
  match l.sending, l.replies, l.notices with
  | some .reply, r :: _, _ => some (wireFrame (r.type + 0x80) r.tag r.body)
  | some (.notice tag), _, n :: _ => some (wireFrame n.type tag n.body)
  | _, _, _ => none

/-! ### Captures (section 11.3, fields in the order of section 4.1) -/

/-- A segment record. -/
def encSegment (x : Segment) : List Byte :=
  encNamed x.coverage.number ++ bytesOf 1 x.thickness ++ bytesOf 2 x.width ++ bytesOf 1 x.wane ++
    encOptional (bytesOf 1) x.defect ++ encOptional encBool x.split ++ encZeroAbsent 1 x.grade

/-- A decision record (R104): kind, p, q, N, grade, class, nominal width, product key, score, mask, flags,
reason; the fields a CHIP lacks are absent, p, q and the key with a presence byte each (DESIGN CHOICE, log entry 43). -/
def encDecision (d : Decision) : List Byte :=
  encNamed (if d.piece.isSome then 0 else 1) ++ encOptional (bytesOf 1) (d.piece.map Piece.p) ++
    encOptional (bytesOf 1) (d.piece.map Piece.q) ++ encZeroAbsent 1 (d.piece.map fun x => x.key.length) ++
    encZeroAbsent 1 (d.piece.map fun x => x.key.grade) ++ encZeroAbsent 1 (d.piece.map fun x => x.key.widthClass) ++
    encZeroAbsent 1 (d.piece.map Piece.width) ++ encOptional encKey (d.piece.map Piece.key) ++ bytesOf 4 d.score ++
    bytesOf 2 d.mask.toNat ++ bytesOf 1 d.flags.bits ++ encNamed d.reason.number

/-- An override record; one presence byte stands before the two saws of a trim mark (DESIGN CHOICE, log entry 43). -/
def encOverride (o : Override) : List Byte :=
  encNamed (stationNumber o.owner) ++ encZeroAbsent 1 o.grade ++
    encOptional (fun pq => bytesOf 1 pq.1 ++ bytesOf 1 pq.2) o.trim ++ encBool o.chip

/-- A board record, whole; one presence byte stands before each record or pair within it (DESIGN CHOICE, log entry 43). -/
def encBoard (b : Board) : List Byte :=
  encLug b.lug ++ encNamed b.state.number ++ encZeroAbsent 2 b.logId ++ encZeroAbsent 2 b.assemblyRun ++
    encZeroAbsent 2 b.runAtSolve ++ b.segments.flatMap encSegment ++
    encOptional (fun e => bytesOf 1 e.1 ++ bytesOf 1 e.2) b.extent ++ encOptional encDecision b.decision ++
    encOptional encOverride b.override ++ encOptional (fun g : BitVec 16 => bytesOf 2 g.toNat) b.generation ++
    encNamed b.windowA.number ++ encNamed b.windowB.number ++ encBool b.commitDue ++
    encOptional (fun r => bytesOf 1 r.bin ++ bytesOf 1 r.stamp) b.sort ++ bytesOf 2 b.flags.bits ++
    bytesOf 1 (bitsOf b.watchHits)

/-- A capture: slot, point and lug number at the hit, then the record (section 11.3; the order DESIGN CHOICE, log entry
43). -/
def encCapture (c : Capture) : List Byte :=
  bytesOf 1 c.slot ++ encNamed c.point.number ++ encLug c.lug ++ encBoard c.board

/-! ### Tally data (R157, R158) -/

/-- A product tally bin. -/
def encBin (b : TallyBin) : List Byte :=
  encKey b.key ++ bytesOf 1 b.width ++ encCounter8 b.pieces ++ encCounter10 b.twelfths

/-- An account. -/
def encAccount (a : Account) : List Byte := encCounter8 a.count ++ encCounter10 a.twelfths

/-- A class of the log tally. -/
def encClass (c : LogClass) : List Byte :=
  encCounter8 c.logs ++ encCounter10 c.volume ++ encCounter8 c.boards ++ encCounter10 c.twelfths

/-- The part asked for: bins from the first one named, or the accounts; the two fault marks stand with the
accounts of the live tally, and with no period record (DEDUCED, log entry 23). -/
def encPart (part : TallyPart) (body : TallyBody) (marks : List Byte) : List Byte :=
  match part with
  | .product first count => encList 1 encBin ((body.bins.drop first).take count)
  | .accounts =>
    encCounter8 body.chips ++ encCounter8 body.missed ++ encCounter8 body.lost ++ encAccount body.overflow ++
      encAccount body.unattributed ++ body.classes.flatMap encClass ++ marks

/-- The data of TALLY READ (R157): the number of bins held, and in the part asked for a count of the bins sent (R190; DESIGN
CHOICE, log entry 54). -/
def encTally (t : Tally) (part : TallyPart) : List Byte :=
  bytesOf 2 t.period ++ bytesOf 2 t.live.body.bins.length ++
    encPart part t.live.body (encBool t.live.fullFault ++ encBool t.live.widthFault)

/-- The data of PERIOD READ (R158): as TALLY READ, with the lug number at the close added (log
entries 23 and 54). -/
def encPeriod (r : PeriodRecord) (part : TallyPart) : List Byte :=
  bytesOf 2 r.period ++ bytesOf 2 r.body.bins.length ++ encPart part r.body [] ++ encLug r.lug

/-! ### FRAME READ, PRICE READ, BIN READ (R86, R108, R144) -/

/-- A frame's entries, limit number and value, with their count whatever the kind of frame (DESIGN CHOICE, log entry 55). -/
def encEntries (es : List (Nat × Nat)) : List Byte := encList 1 (fun e => bytesOf 1 e.1 ++ bytesOf 1 e.2) es

/-- The data of FRAME READ (R86). The owner of a frame is numbered among line computer, Station A and Station B (R72; DESIGN
CHOICE, log entry 37). The entries of every kind of frame have a count, the 27 effective values have none (DESIGN CHOICE, log
entry 55). -/
def encFrames (f : Frames) : List Byte :=
  bytesOf 2 f.generation.toNat ++ bytesOf 1 (1 + f.run.elim 0 (fun _ => 1) + f.holds.length) ++
    (encNamed 0 ++ encNamed 0 ++ encEntries ((List.range 27).map fun n => (n, f.base.getD n 0))) ++
    f.run.elim [] (fun es => encNamed 1 ++ encNamed 0 ++ encEntries es) ++
    f.holds.flatMap (fun h => encNamed 2 ++ encNamed (stationNumber h.owner + 1) ++ encEntries [(25, h.ceiling)] ++
      bytesOf 1 h.code ++ bytesOf 2 h.timer.reload ++ bytesOf 2 h.timer.remaining) ++
    f.limits.flatMap (bytesOf 1)

/-- The state, as `ValueState.number` numbers it, and the value of a value table entry; an ABSENT one is reported with value 0
(R108). -/
def encValue (v : ValueEntry) : List Byte :=
  encNamed v.state.number ++ bytesOf 2 (if v.state = .absent then 0 else v.value)

/-- The data of BIN READ (R144). -/
def encBinTable (x : Sorter) : List Byte :=
  bytesOf 1 x.defaultBin ++ encList 1 (fun e => encKey e.1 ++ bytesOf 1 e.2) x.bins

/-! ### STATUS (R184) -/

/-- Section 1, Chain Interface (R15). -/
def statusChain (s : State) : List Byte :=
  let c := s.chain
  encLug c.lug ++ bytesOf 2 c.phase ++ bytesOf 2 c.backlash ++ encNamed (if c.aligned then 1 else 0) ++
    encNamed c.line.number ++ encBool s.pins.lineStop ++ encBool s.pins.chainRun ++ bytesOf 2 c.slips ++
    bytesOf 2 c.eyeMisses ++ bytesOf 2 c.encoderErrors ++ bytesOf 2 c.config.pulses ++ bytesOf 2 c.config.tolerance ++
    bytesOf 1 c.config.markA ++ bytesOf 1 c.config.markB ++ bytesOf 1 c.config.window ++ bytesOf 1 c.config.commit ++
    bytesOf 1 c.config.deadline ++ bytesOf 1 c.config.sort

/-- One open log in STATUS (R30). -/
def statusLog (l : Log) : List Byte :=
  bytesOf 2 l.id ++ encNamed l.state.number ++ encOptional (bytesOf 1) l.announced ++ bytesOf 2 l.seen ++
    bytesOf 2 l.pending ++ bytesOf 2 l.doneCount ++ bytesOf 1 l.flags.bits ++
    encOptional (bytesOf 2) (if l.timer.running then some l.timer.remaining else none)

/-- Section 2, Log Scaler (R30). The number of open logs, its first field, is the only count of the list of logs that ends it
(R190; DESIGN CHOICE, log entry 54). -/
def statusLogs (s : State) : List Byte :=
  bytesOf 1 s.logs.queue.length ++ bytesOf 2 s.logs.nextId ++ bytesOf 2 s.logs.shortRecords ++
    bytesOf 2 s.logs.emptyRecords ++ bytesOf 2 s.logs.forcedCloses ++ s.logs.queue.flatMap statusLog

/-- Section 3, Scan Assembler (R50). -/
def statusScan (s : State) : List Byte :=
  let a := s.scan
  encNamed a.vision.number ++ [a.context] ++ bytesOf 1 a.misses ++ a.headMisses.flatMap (bytesOf 2) ++
    a.badFrames.flatMap (bytesOf 2) ++ bytesOf 2 a.eyeDisagree ++ bytesOf 2 a.late ++ bytesOf 2 a.stale ++
    bytesOf 2 a.visionFaults ++ bytesOf 2 a.visionMisses ++ bytesOf 2 a.unexpected

/-- The number of records in a state. -/
def Tracking.countIn (t : Tracking) (x : BoardState) : Nat := (t.boards.filter fun b => b.state == x).length

/-- Section 4, Tracking Table (R69). The oldest and the youngest lug number have a presence byte each (DESIGN CHOICE, log entry
42). -/
def statusTrack (s : State) : List Byte :=
  let t := s.track
  bytesOf 1 t.boards.length ++ encOptional encLug (t.boards.head?.map Board.lug) ++
    encOptional encLug (t.boards.getLast?.map Board.lug) ++
    ([.assembling, .solving, .solved, .committed, .accepted, .missed].flatMap fun x => bytesOf 1 (t.countIn x)) ++
    bytesOf 1 (t.boards.filter Board.commitDue).length ++ bytesOf 2 t.notCommitted

/-- Section 5, Frame Chain (R88). The mark of the RUN frame is the presence byte of its number of entries (DESIGN CHOICE, log
entry 42). -/
def statusFrames (s : State) : List Byte :=
  let f := s.frames
  bytesOf 2 f.generation.toNat ++ encOptional (fun es : List (Nat × Nat) => bytesOf 1 es.length) f.run ++
    ([StationId.a, StationId.b].flatMap fun st =>
      encList 1 (fun h : Hold => bytesOf 1 h.code ++ bytesOf 1 h.ceiling ++ bytesOf 2 h.timer.remaining) (f.ownedBy st))

/-- Section 6, Trim Solver (R111). The mark of the open run is the presence byte of its record (DESIGN CHOICE, log entry 42); the
three counts stand in the order of R105 (DESIGN CHOICE, log entry 56). -/
def statusSolver (s : State) : List Byte :=
  let v := s.solver
  encOptional (fun r : Run => bytesOf 2 r.number ++ bytesOf 1 r.species ++ bytesOf 1 r.thickness ++
      encList 1 (fun c => bytesOf 1 c.1 ++ bytesOf 2 c.2) r.classes) v.run ++
    bytesOf 1 v.queue.length ++ bytesOf 1 v.highWater ++ encOptional encLug (v.inProgress.map Solve.lug) ++
    bytesOf 2 v.completed ++
    ([ValueState.absent, .present, .withdrawn].flatMap fun x =>
      bytesOf 1 (v.values.filter fun e => e.state == x).length)

/-- One station in STATUS (R128). -/
def statusStation (x : Station) : List Byte :=
  encOptional encLug x.selection ++ encOptional encLug x.last ++ encNamed x.retrigger.number ++
    bytesOf 1 x.output.length ++ bytesOf 2 x.records ++ bytesOf 2 x.syntaxCount ++ bytesOf 2 x.overruns ++
    bytesOf 2 x.messagesLost

/-- Section 7, Station Interface (R128). -/
def statusStations (s : State) : List Byte := statusStation s.stationA ++ statusStation s.stationB

/-- The decision that carries the pending-again mark; the presented one's, when two do (DESIGN CHOICE, log entry 41). -/
def Trimmer.againLug (t : Trimmer) : Option Lug :=
  ([t.presented, t.staged].filterMap id).find? Slot.again |>.map Slot.lug

/-- Section 8, Trimmer Port (R141). One presence byte stands before the presented decision's lug number and condition (DESIGN
CHOICE, log entry 42). -/
def statusTrimmer (s : State) : List Byte :=
  let t := s.trimmer
  encNamed t.mode.number ++ bytesOf 1 t.width ++ encNamed t.phase.number ++ encBool s.pins.ack ++
    encOptional (fun x : Slot => encLug x.lug ++ encNamed (if t.onLines then 0 else 1)) t.presented ++
    encOptional (fun x : Slot => encLug x.lug) t.staged ++ encOptional encLug t.againLug ++ bytesOf 2 t.accepted ++
    bytesOf 2 t.overruns ++ bytesOf 2 t.deadlines ++ bytesOf 2 t.handshakeFaults ++ bytesOf 2 t.representations

/-- Section 9, Sorter Port (R145). -/
def statusSorter (s : State) : List Byte :=
  let x := s.sorter
  encNamed x.strobe.number ++ encBool x.waiting.isSome ++ bytesOf 1 x.bins.length ++ bytesOf 1 x.defaultBin ++
    bytesOf 2 x.delivered ++ bytesOf 2 x.overruns

/-- Section 10, Tally Unit (R159). -/
def statusTally (s : State) : List Byte :=
  let t := s.tally
  bytesOf 2 t.period ++ bytesOf 2 t.live.body.bins.length ++ bytesOf 1 t.orders.length ++
    bytesOf 1 (t.orders.filter fun o => o.state == .filled).length ++ bytesOf 1 t.accepted ++
    encBool t.live.fullFault ++ encBool t.live.widthFault

/-- Section 11, Tally Store (R169). Each of the four block counts takes two bytes (DESIGN CHOICE, log entry 47); the STATIC
block's erase count and the newest checkpoint's number have a presence byte (DESIGN CHOICE, log entry 42). -/
def statusStore (s : State) : List Byte :=
  let x := s.store
  ([BlockState.free, .active, .full, .static].flatMap fun b => bytesOf 2 (x.countIn b)) ++
    bytesOf 4 x.lowestErase ++ bytesOf 4 x.highestErase ++ encOptional (fun i => bytesOf 4 (x.eraseOf i)) x.staticBlock ++
    encNamed (if x.conditionFull then 1 else 0) ++ encNamed (if x.warned then 1 else 0) ++
    encList 1 (fun p : StoreOp × Nat => encNamed p.1.number ++ encBool (x.inFlight.isSome && p.2 == 0))
      x.queue.zipIdx ++
    encBool x.deferred ++ encBool x.relocationDue ++
    encOptional (fun r : StoreRecord => bytesOf 4 r.seq.toNat) (newestCheckpoint x.blocks) ++
    bytesOf 4 x.nextSeq.toNat ++ bytesOf 1 s.tally.interval ++ bytesOf 2 x.skipped

/-- One watch slot in STATUS (R177). One presence byte stands before the six fields of its program, which an EMPTY slot lacks
(DESIGN CHOICE, log entry 42). -/
def statusSlot (w : WatchSlot) : List Byte :=
  encNamed w.state.number ++
    encOptional (fun p : WatchProgram => encNamed p.condition.kindNumber ++ bytesOf 3 p.condition.operand ++
      encNamed p.point.number ++ encNamed p.scope.number ++ encBool p.capture ++ encBool p.oneShot) w.program ++
    bytesOf 2 w.hits ++ encOptional encLug w.lastHit ++ encBool w.captureLost

/-- Section 12, Watch Unit (R177). -/
def statusWatch (s : State) : List Byte :=
  s.watch.slots.flatMap statusSlot ++ bytesOf 1 s.watch.captures.length ++ bytesOf 2 s.watch.discarded

/-- Section 13, Line Link (R184). -/
def statusLink (s : State) : List Byte :=
  let l := s.link
  encNamed (if l.framer.receiving then 1 else 0) ++ bytesOf 1 l.replies.length ++ bytesOf 1 l.notices.length ++
    bytesOf 2 l.checkFails ++ bytesOf 2 l.badLengths ++ bytesOf 2 l.brokenFrames ++ bytesOf 2 l.replyOverruns ++
    bytesOf 2 l.droppedSince ++ bytesOf 2 l.reportsDropped ++ bytesOf 2 l.noticesDropped ++
    l.scannerFails.flatMap (bytesOf 2)

/-- A section with its number and its length in front (R184). The length counts the bytes after it, and not the number and length
bytes themselves (DESIGN CHOICE, log entry 53). -/
def statusSection (n : Nat) (content : List Byte) : List Byte :=
  bytesOf 1 n ++ bytesOf 1 content.length ++ content

/-- The thirteen sections of STATUS, in the order of R184. -/
def statusData (s : State) : List Byte :=
  statusSection 1 (statusChain s) ++ statusSection 2 (statusLogs s) ++ statusSection 3 (statusScan s) ++
    statusSection 4 (statusTrack s) ++ statusSection 5 (statusFrames s) ++ statusSection 6 (statusSolver s) ++
    statusSection 7 (statusStations s) ++ statusSection 8 (statusTrimmer s) ++ statusSection 9 (statusSorter s) ++
    statusSection 10 (statusTally s) ++ statusSection 11 (statusStore s) ++ statusSection 12 (statusWatch s) ++
    statusSection 13 (statusLink s)

/-! ### Context records (R41, section 12.9) -/

/-- A context record as it stands on the vision link. -/
def ContextRecord.wire (r : ContextRecord) : List Byte :=
  let content := [r.context] ++ bytesOf 1 r.species ++ bytesOf 1 r.thickness
  syncByte :: content ++ [sumCheck content]

/-! ### The text of a station line (R113, R119, R121) -/

/-- A character as a byte. -/
def chr (c : Char) : Byte := BitVec.ofNat 8 c.toNat

/-- A list of characters as bytes. -/
def textOf (cs : List Char) : List Byte := cs.map chr

/-- A number as text without leading zeros, up to five digits. -/
def decimalText (n : Nat) : List Byte :=
  let ds := (digitsOf 5 n).dropWhile (· == 0)
  (if ds.isEmpty then [0] else ds).map fun d => BitVec.ofNat 8 (0x30 + d)

/-- A lug number modulo 10000 in four digits. -/
def lugText (l : Lug) : List Byte := (digitsOf 4 l.toNat).map fun d => BitVec.ofNat 8 (0x30 + d)

/-- A station's letter. -/
def stationText : StationId → List Byte
  | .a => textOf ['A']
  | .b => textOf ['B']

/-- The text of a reply line. -/
def StationReply.text : StationReply → List Byte
  | .ok => textOf ['O', 'K']
  | .noSyntax => textOf ['N', 'O', ' ', 'S', 'Y', 'N', 'T', 'A', 'X']
  | .noBoard => textOf ['N', 'O', ' ', 'N', 'O', ' ', 'B', 'O', 'A', 'R', 'D']
  | .noTooLate => textOf ['N', 'O', ' ', 'T', 'O', 'O', ' ', 'L', 'A', 'T', 'E']
  | .noWood => textOf ['N', 'O', ' ', 'N', 'O', ' ', 'W', 'O', 'O', 'D']
  | .noRun => textOf ['N', 'O', ' ', 'N', 'O', ' ', 'R', 'U', 'N']
  | .noHoldFull => textOf ['N', 'O', ' ', 'H', 'O', 'L', 'D', ' ', 'F', 'U', 'L', 'L']
  | .noHoldActive => textOf ['N', 'O', ' ', 'H', 'O', 'L', 'D', ' ', 'A', 'C', 'T', 'I', 'V', 'E']
  | .noNoHold => textOf ['N', 'O', ' ', 'N', 'O', ' ', 'H', 'O', 'L', 'D']

/-- The State field of a display line. -/
def BoardState.text : BoardState → List Byte
  | .assembling => textOf ['A', 'S']
  | .solving => textOf ['S', 'V']
  | .solved => textOf ['S', 'D']
  | .committed => textOf ['C', 'M']
  | .accepted => textOf ['A', 'C']
  | .missed => textOf ['M', 'S']

/-- The two-letter codes of the flags, in the order of the table of R121: left column, then right column. -/
def flagCodes (b : BoardFlags) (d : DecisionFlags) : List (Bool × List Byte) :=
  [(b.slipped, textOf ['S', 'L']), (b.headMissing, textOf ['H', 'M']), (b.clamped, textOf ['C', 'L']),
   (b.geoOnly, textOf ['G', 'O']), (b.noScan, textOf ['N', 'S']), (b.runStraddle, textOf ['R', 'S']),
   (d.orderExcluded, textOf ['O', 'X']), (b.notCommitted, textOf ['N', 'T']), (b.trimOverrun, textOf ['T', 'O']),
   (b.trimDeadline, textOf ['T', 'D']), (d.noRun, textOf ['N', 'R']), (d.noPrice, textOf ['N', 'P']),
   (d.tableLimited, textOf ['T', 'L']), (d.orderDiscount, textOf ['O', 'D'])]

/-- The Flags field of a display line. -/
def flagsText (b : BoardFlags) (d : DecisionFlags) : List Byte :=
  let held := (flagCodes b d).filterMap fun p => if p.1 then some p.2 else none
  if held.isEmpty then textOf ['-'] else held.flatten

/-- The Override field of a display line. -/
def overrideText : Option Override → List Byte
  | none => textOf ['-']
  | some o =>
    stationText o.owner ++ textOf [':'] ++ o.grade.elim [] (fun g => textOf ['G'] ++ decimalText g) ++
      o.trim.elim [] (fun pq => textOf ['T'] ++ decimalText pq.1 ++ textOf ['-'] ++ decimalText pq.2) ++
      (if o.chip then textOf ['C'] else [])

/-- The Holds field of a display line. -/
def holdsText (hs : List (Nat × Nat)) : List Byte :=
  textOf ['H'] ++ if hs.isEmpty then textOf ['-'] else
    ((hs.map fun h => decimalText h.1 ++ textOf [':'] ++ decimalText h.2).intersperse (textOf [','])).flatten

/-- Fields joined by single spaces. -/
def spaced (fields : List (List Byte)) : List Byte := (fields.intersperse (textOf [' '])).flatten

/-- The text of a display line (R121). -/
def DisplayLine.text (d : DisplayLine) : List Byte :=
  match d.board with
  | none => spaced [textOf ['D'], textOf ['-', '-', '-', '-'], holdsText d.holds]
  | some b =>
    let piece := b.decision.bind Decision.piece
    spaced [textOf ['D'], lugText b.lug, if b.selected then textOf ['W'] else textOf ['X'], b.state.text,
      (match b.decision, piece with
        | none, _ => textOf ['-', '-', '-', '-']
        | some _, some x => textOf ['L'] ++ decimalText x.key.length
        | some _, none => textOf ['C', 'H', 'I', 'P']),
      piece.elim (textOf ['-']) (fun x => textOf ['G'] ++ decimalText x.key.grade),
      piece.elim (textOf ['-']) (fun x => decimalText x.key.thickness ++ textOf ['X'] ++ decimalText x.width),
      overrideText b.override,
      flagsText b.flags (b.decision.elim DecisionFlags.clear Decision.flags), holdsText d.holds]

/-- The text of a line to a pendant, ended by a CR (section 7.3). The lug number of ! SUPERSEDED is taken modulo 10000, as on
the display (DESIGN CHOICE, log entry 40). -/
def StationLine.text : StationLine → List Byte
  | .reply r => r.text ++ [0x0D]
  | .display d => d.text ++ [0x0D]
  | .superseded lug taker =>
    spaced [textOf ['!'], textOf ['S', 'U', 'P', 'E', 'R', 'S', 'E', 'D', 'E', 'D'], lugText lug, stationText taker] ++
      [0x0D]

end Sys2Proof.Machine
end

