-- ==== Sys2Proof/Machine/Receive.lean ====
section
/-! DEFINITION. The receivers, one character at a time: the framer of the Line Link (R178, R179), the receivers of
the thirteen scanner links (R189) and of the two stations (R112). -/

namespace Sys2Proof.Machine

/-! ### The framer -/

/-- What a character brings about at the framer. -/
inductive FramerEvent where
  | none
  | good (type tag : Byte) (body : List Byte)
  | checkFail
  | badLength
  | broken
deriving DecidableEq, Repr

/-- A frame's unescaped bytes after the start byte with one more stored (R178). -/
def Framer.store (f : Framer) (b : Byte) : Framer × FramerEvent :=
  let buffer := f.buffer ++ [b]
  let length := numberOf (buffer.take 2)
  if buffer.length < 2 then ({ receiving := true, buffer := buffer, escaped := false }, .none)
  else if buffer.length = 2 ∧ Config.bodyMax < length then (Framer.hunt, .badLength)
  else if buffer.length = length + 6 then
    if (crc16 (buffer.take (length + 4))).toNat = numberOf (buffer.drop (length + 4)) then
      (Framer.hunt, .good (buffer.getD 2 0) (buffer.getD 3 0) ((buffer.drop 4).take length))
    else (Framer.hunt, .checkFail)
  else ({ receiving := true, buffer := buffer, escaped := false }, .none)

/-- One character at the framer (R178). -/
def Framer.receive (f : Framer) (c : RxChar) : Framer × FramerEvent :=
  if f.receiving then
    match c with
    | .framingError => (Framer.hunt, .broken)
    | .byte b =>
      if b = startByte then ({ receiving := true, buffer := [], escaped := false }, .broken)
      else if f.escaped then f.store (b ^^^ 0x20#8)
      else if b = escapeByte then ({ f with escaped := true }, .none)
      else f.store b
  else
    match c with
    | .byte b => if b = startByte then ({ receiving := true, buffer := [], escaped := false }, .none) else (f, .none)
    | .framingError => (f, .none)

/-- A break on the receive line (R179): a partial frame is discarded, HUNT is left as it was. -/
def Framer.lineBreak (f : Framer) : Framer × FramerEvent := if f.receiving then (Framer.hunt, .broken) else (f, .none)

/-! ### The scanner receivers -/

/-- A link's place in the lists of receivers and check-fail counts: the heads, the vision link, the log scan link. -/
def scannerIndex : ScannerLink → Nat
  | .head h => h.val
  | .vision => 11
  | .logScan => 12

/-- How many bytes follow the sync byte, once they are known (R189). -/
def scannerFollowing (link : ScannerLink) (received : List Byte) : Option Nat :=
  match link with
  | .head _ => some 13
  | .vision => some 27
  | .logScan => received.head?.map fun n => 2 + 2 * n.toNat

/-- What a character brings about at a scanner receiver. -/
inductive ScannerEvent where
  | none
  | record (content : List Byte)
  | fail
deriving DecidableEq, Repr

/-- One character at a scanner receiver (R189): hunting, only A5h is taken; then bytes are stored until the record
is complete, and its check byte decides. -/
def scannerReceive (link : ScannerLink) (rx : Option (List Byte)) (c : RxChar) : Option (List Byte) × ScannerEvent :=
  match rx, c with
  | none, .byte b => if b = syncByte then (some [], .none) else (none, .none)
  | none, .framingError => (none, .none)
  | some _, .framingError => (none, .fail)
  | some bs, .byte b =>
    let bytes := bs ++ [b]
    if scannerFollowing link bytes = some bytes.length then
      if sumCheck bytes.dropLast = b then (none, .record bytes.dropLast) else (none, .fail)
    else (some bytes, .none)

/-- A break on a scanner link (R189): a record being received is discarded as failed. -/
def scannerBreak (rx : Option (List Byte)) : Option (List Byte) × ScannerEvent :=
  match rx with
  | some _ => (none, .fail)
  | none => (none, .none)

/-- A segment of a head frame from its five bytes. -/
def rawSegment (bs : List Byte) : RawSegment :=
  { coverage := bs.getD 0 0, thickness := bs.getD 1 0, width := BitVec.ofNat 16 (fieldAt bs 2 2), wane := bs.getD 4 0 }

/-- A head frame from the bytes between sync and check (section 12.9). -/
def headFrameOf (bs : List Byte) : HeadFrame :=
  { tag := bs.getD 0 0, head := bs.getD 1 0, first := rawSegment (bs.drop 2), second := rawSegment (bs.drop 7) }

/-- A defect frame from the bytes between sync and check (section 12.9). -/
def defectFrameOf (bs : List Byte) : DefectFrame :=
  { tag := bs.getD 0 0, head := bs.getD 1 0, context := bs.getD 2 0, status := bs.getD 3 0, entries := bs.drop 4 }

/-- The diameters of a log scan record from the bytes between sync and check (section 12.9). -/
def diametersOf (bs : List Byte) : List Half :=
  (List.range (bs.getD 0 0).toNat).map fun k => BitVec.ofNat 16 (fieldAt bs (1 + 2 * k) 2)

/-! ### The station receivers -/

/-- A character that a station record may hold (R112). -/
def stationChar (b : Byte) : Bool :=
  b == 0x20#8 || b == 0x3F#8 || decide (0x30 ≤ b.toNat ∧ b.toNat ≤ 0x39) || decide (0x41 ≤ b.toNat ∧ b.toNat ≤ 0x5A)

/-- One character at a station's receive buffer (R112); the second part says that a CR ended the record. A character that
sets the discard mark is not stored (DESIGN CHOICE, log entry 39). -/
def Station.receive (x : Station) (c : RxChar) : Station × Bool :=
  match c with
  | .framingError => ({ x with discard := true }, false)
  | .byte b =>
    if b = 0x0A#8 then (x, false)
    else if b = 0x0D#8 then (x, true)
    else if stationChar b ∧ x.buffer.length < 32 then ({ x with buffer := x.buffer ++ [b] }, false)
    else ({ x with discard := true }, false)

end Sys2Proof.Machine
end

