-- ==== Sys2Proof/Machine/Queue.lean ====
section
/-! DEFINITION. The solve queue (R89, R90, R92) and the re-solve request (R54). -/

namespace Sys2Proof.Machine

/-- A request made into a queue entry, or its reason put into the board's entry (R89). -/
def Solver.enqueue (v : Solver) (lug : Lug) (reason : Reason) : Solver :=
  if v.queue.any fun e => e.1 == lug then
    { v with queue := v.queue.map fun e => if e.1 = lug then (lug, reason) else e }
  else { v with queue := v.queue ++ [(lug, reason)], highWater := max v.highWater (v.queue.length + 1) }

/-- An entry withdrawn (R92). -/
def Solver.withdraw (v : Solver) (lug : Lug) : Solver := { v with queue := v.queue.filter fun e => e.1 ≠ lug }

/-- What a solve takes at its begin (R90). -/
def State.solveInput (s : State) (b : Board) : SolveInput :=
  { segments := b.segments, extent := b.extent, geoOnly := b.flags.geoOnly, noScan := b.flags.noScan,
    assemblyRun := b.assemblyRun, override := b.override, run := s.solver.run, limits := s.frames.limits,
    generation := s.frames.generation, values := s.solver.values, orders := s.tally.orders }

/-- The oldest entry begins its solve when the solver is idle (R90). -/
def State.beginSolve (s : State) : State :=
  match s.solver.inProgress, s.solver.queue with
  | none, (lug, reason) :: rest =>
    s.setSolver { s.solver with
      queue := rest, inProgress := (s.board? lug).map fun b => { lug := lug, reason := reason, input := s.solveInput b } }
  | _, _ => s

/-- A solve request at the Trim Solver (R89, R90). -/
def State.requestSolve (s : State) (lug : Lug) (reason : Reason) : State :=
  (s.setSolver (s.solver.enqueue lug reason)).beginSolve

/-- A re-solve request at the Tracking Table (R54). -/
def State.requestResolve (s : State) (lug : Lug) (reason : Reason) : State :=
  match s.board? lug with
  | none => s
  | some b =>
    match b.state with
    | .solving => s.requestSolve lug reason
    | .solved => (s.updateBoard lug fun x => { x with state := .solving }).requestSolve lug reason
    | _ => s

end Sys2Proof.Machine
end

