-- ==== Sys2Proof/Machine/FrameChain.lean ====
section
/-! DEFINITION. The Frame Chain (chapter 5): BASE, RUN and HOLD frames as they come and go, with their notices. -/

namespace Sys2Proof.Machine

/-- The chain with its generation number incremented (R74). -/
def Frames.advance (f : Frames) : Frames := { f with generation := f.generation + 1 }

/-- The next hold code after one: 255 wraps to 1 (R78). -/
def nextHoldCode (n : Nat) : Nat := if 255 ≤ n then 1 else n + 1

/-- A HOLD notice for a frame with its remaining count at the event and the generation after it (R83). -/
def State.notifyHold (s : State) (cause : HoldCause) (h : Hold) (remaining : Nat) : State :=
  s.notify (.hold cause h.owner h.code h.ceiling h.timer.reload remaining s.chain.lug s.frames.generation)

/-- A HOLD frame removed from wherever it stands (R81, R82, R76): the generation increments, the notice is queued,
the owner's display is refreshed (R122). -/
def State.removeHold (s : State) (h : Hold) (cause : HoldCause) (remaining : Nat) : State :=
  let s := s.setFrames { s.frames with holds := s.frames.holds.erase h }.advance
  (s.notifyHold cause h remaining).refresh h.owner

/-- A run close at the Frame Chain (R76): the HOLD frames oldest first, then the RUN frame. -/
def State.closeFrames (s : State) : State :=
  let s := s.frames.holds.foldl (fun s h => s.removeHold h .runClosed h.timer.remaining) s
  s.setFrames { s.frames with run := none }.advance

/-- A run open at the Frame Chain (R77). -/
def State.openFrames (s : State) (entries : List (Nat × Nat)) : State :=
  s.setFrames { s.frames with run := some (clampEntries entries) }.advance

/-- An accepted SET BASE RULES (R75). -/
def Frames.setBase (f : Frames) (values : List Nat) : Frames := { f with base := clampBase values }.advance

/-- The expiry of a HOLD frame whose counter has one pending (R81), named by its code (DESIGN CHOICE, log entry 9). -/
def State.expireHold (s : State) (code : Nat) : State :=
  match s.frames.holds.find? fun h => h.code == code && h.timer.expiryPending with
  | some h => s.removeHold h .expired 0
  | none => s

/-- A hold cancel (R82): the station's newest HOLD frame. -/
def State.cancelHold (s : State) (st : StationId) : State × StationReply :=
  match (s.frames.ownedBy st).getLast? with
  | some h => (s.removeHold h .cancelled h.timer.remaining, .ok)
  | none => (s, .noNoHold)

/-- A station's mark offset. -/
def LineConfig.mark (c : LineConfig) : StationId → Nat
  | .a => c.markA
  | .b => c.markB

/-- The re-solves of a HOLD creation (R80): every SOLVED board short of the station's mark, oldest first. -/
def State.resolveForHold (s : State) (st : StationId) : State :=
  let named := (s.track.boards.filter fun b =>
    b.state == .solved && decide (offsetOf s.chain.lug b.lug < s.chain.config.mark st)).map Board.lug
  named.foldl (fun s lug => s.requestResolve lug .hold) s

/-- A HOLD frame created (R78, R80). -/
def State.createHold (s : State) (st : StationId) (g n : Nat) : State :=
  let h : Hold := { owner := st, ceiling := g, code := s.frames.nextCode,
                    timer := (LugCounter.idle n (s.station st).retrigger).trigger }
  let s := s.setFrames { s.frames with holds := s.frames.holds ++ [h], nextCode := nextHoldCode s.frames.nextCode }.advance
  ((s.notifyHold .created h h.timer.remaining).resolveForHold st).refresh st

/-- A retrigger of a HOLD frame (R79). A push ignored under IGNORE refreshes no display (R122, R123; DESIGN CHOICE, log entry
48). -/
def State.retriggerHold (s : State) (h : Hold) (n : Nat) : State × StationReply :=
  match h.timer.retrigger with
  | .reload =>
    let timer := { h.timer with reload := n }.trigger
    ((s.setFrames { s.frames with
        holds := s.frames.holds.map fun x => if x = h then { x with timer := timer } else x }).refresh h.owner, .ok)
  | .ignore => (s, .noHoldActive)

/-- A hold push (R78, R79), with the station's reply. -/
def State.pushHold (s : State) (st : StationId) (g n : Nat) : State × StationReply :=
  match (s.frames.ownedBy st).find? fun h => h.ceiling == g with
  | some h => s.retriggerHold h n
  | none =>
    if s.frames.run.isNone then (s, .noRun)
    else if Config.holdsPerStation ≤ (s.frames.ownedBy st).length then (s, .noHoldFull)
    else (s.createHold st g n, .ok)

/-- The HOLD counters at a gated boundary (R9). -/
def Frames.countDown (f : Frames) : Frames :=
  { f with holds := f.holds.map fun h => { h with timer := h.timer.countDown } }

end Sys2Proof.Machine
end

