-- ==== Sys2Proof/Machine/Store.lean ====
section
/-! DEFINITION. The Tally Store at work (chapter 10): the operation queue, the begin and completion of an operation,
checkpoint requests, reclaim, relocation, and what a cut of the supply leaves in flash. -/

namespace Sys2Proof.Machine

/-! ### The begin of an operation (R161 to R164, R166) -/

/-- The block a journal record goes to, with the block table as the write leaves it (R161): the ACTIVE block with
room, else the least worn FREE block, which becomes ACTIVE in place of the one that had no room. -/
def Store.journalPlace (x : Store) (space : Nat) : Option (Nat × Store) :=
  match x.activeBlock.filter (fun i => (x.blocks[i]?).elim false (fun b => b.hasRoom space)) with
  | some i => some (i, x)
  | none =>
    match x.leastWornFree with
    | some j =>
      let x' := match x.activeBlock with
        | some i => x.modifyBlock i (fun b => { b with state := .full })
        | none => x
      some (j, x'.modifyBlock j (fun b => { b with state := .active }))
    | none => none

/-- A write begins: it takes the next sequence number, and the record as it will stand when the write completes (R160). -/
def Store.beginWrite (x : Store) (block : Nat) (body : StoreBody) (newStatic : Bool) : Store :=
  { x with
    inFlight := some { write := some { block := block, record := .written body x.nextSeq,
                                       newStatic := newStatic } },
    nextSeq := x.nextSeq + 1 }

/-- An operation in flight that writes nothing. -/
def Store.beginNothing (x : Store) : Store := { x with inFlight := some { write := none } }

/-- A checkpoint or period write begins (R161). -/
def Store.beginJournal (x : Store) (body : StoreBody) : Store :=
  match x.journalPlace (recordSpace (bodyBytes body)) with
  | some (i, x') => x'.beginWrite i body false
  | none => x.beginNothing

/-- A write into the most worn FREE block, whose header is written with role STATIC (R164, R166). Until the record is valid and
the block becomes STATIC it counts as FREE (DESIGN CHOICE, log entry 52). -/
def Store.beginNewStatic (x : Store) (body : StoreBody) : Store :=
  match x.mostWornFree with
  | some j => (x.modifyBlock j (fun b => { b with role := .static })).beginWrite j body true
  | none => x.beginNothing

/-- A settings write begins: in the STATIC block when it has room, else in a new STATIC block (R164). -/
def Store.beginSettings (x : Store) (body : StoreBody) : Store :=
  match x.staticBlock.filter
      (fun i => (x.blocks[i]?).elim false (fun b => b.hasRoom (recordSpace (bodyBytes body)))) with
  | some i => x.beginWrite i body false
  | none => x.beginNewStatic body

/-- A relocate static begins (R166): with no copy when the test no longer holds; with no copy and the
relocation-due mark set when no block is FREE; where both hold the mark stays as it is (DESIGN CHOICE, log entry 34). -/
def Store.beginRelocate (x : Store) : Store :=
  if x.relocationWanted then
    if x.anyFree then
      match newestSettings x.blocks with
      | some r => x.beginNewStatic r.body
      | none => x.beginNothing
    else { x.beginNothing with relocationDue := true }
  else x.beginNothing

/-- The snapshot a write checkpoint takes when it begins (R163). -/
def State.snapshot (s : State) : Checkpoint :=
  { period := s.tally.period, lug := s.chain.lug, live := s.tally.live, orders := s.tally.orders }

/-- The oldest operation begins when no operation is in flight and no block is being erased (R162). -/
def State.beginStoreOp (s : State) : State :=
  if s.store.inFlight.isSome || s.store.erasing.isSome then s
  else
    match s.store.queue with
    | [] => s
    | .checkpoint :: _ => s.setStore (s.store.beginJournal (.checkpoint s.snapshot))
    | .period r :: _ => s.setStore (s.store.beginJournal (.period r))
    | .settings i :: _ => s.setStore (s.store.beginSettings (.settings i))
    | .relocate :: _ => s.setStore s.store.beginRelocate

/-- The queue is full (R162). -/
def Store.queueFull (x : Store) : Bool := decide (Config.storeQueue ≤ x.queue.length)

/-- An operation queued at the young end; it begins at once in an idle store (R162). -/
def State.queueStoreOp (s : State) (op : StoreOp) : State :=
  (s.setStore { s.store with queue := s.store.queue ++ [op] }).beginStoreOp

/-! ### Checkpoint requests (R163) -/

/-- The operations that have not begun. -/
def Store.waiting (x : Store) : List StoreOp := if x.inFlight.isSome then x.queue.tail else x.queue

/-- Reclaim is tried, from block `i` on; while an erase is in progress it is asked for again, and follows that erase
(R165). -/
def Store.startReclaim (x : Store) (i : Nat) : Store :=
  if x.erasing.isSome then { x with reclaimAgain := true } else { x with erasing := x.nextReclaim i }

/-- A checkpoint request (R163): coalesced, deferred, dropped while the condition is FULL, or queued. -/
def State.requestCheckpoint (s : State) : State :=
  let x := s.store
  if x.waiting.any (fun op => op == .checkpoint) then s
  else if x.queueFull then s.setStore { x with deferred := true }
  else if x.conditionFull then s.setStore ({ x with skipped := satInc x.skipped }.startReclaim 0)
  else s.queueStoreOp .checkpoint

/-! ### Completion (R161, R164 to R166) -/

/-- The relocation test, made after each erase and each completion (R166). A deferred checkpoint goes first (R162), so while
one stands the mark is set instead (DEDUCED, log entry 18). -/
def Store.testRelocation (x : Store) : Store :=
  if x.relocationWanted && !x.relocateQueued then
    if x.anyFree && !x.queueFull && !x.deferred then
      { x with queue := x.queue ++ [.relocate], relocationDue := false }
    else { x with relocationDue := true }
  else x

/-- After reclaim (R162): a deferred checkpoint, then a due relocation, then the next operation. Where a deferred checkpoint is
queued, the oldest operation begins with its queueing, before the due relocation is queued (DESIGN CHOICE, log entry 51). -/
def State.afterReclaim (s : State) : State :=
  let s := if s.store.deferred && !s.store.queueFull then
      (s.setStore { s.store with deferred := false }).requestCheckpoint
    else s
  let x := s.store
  let s := if x.relocationDue && !x.queueFull && x.relocationWanted && !x.relocateQueued && x.anyFree then
      s.setStore { x with queue := x.queue ++ [.relocate], relocationDue := false }
    else s
  s.beginStoreOp

/-- After reclaim when no erase stands and no operation is in flight. -/
def State.settleStore (s : State) : State :=
  if s.store.erasing.isSome || s.store.inFlight.isSome then s else s.afterReclaim

/-- The operation in flight has completed: it leaves the queue, then the relocation test, reclaim, and what follows
(R162, R165, R166; the order DEDUCED, log entry 18). -/
def State.finishStoreOp (s : State) : State :=
  (s.setStore ((({ s.store with queue := s.store.queue.tail, inFlight := none }).testRelocation).startReclaim 0)).settleStore

/-- A record that stands complete in its block. -/
def Store.commitWrite (x : Store) (w : FlashWrite) : Store := x.modifyBlock w.block (fun b => b.append w.record)

/-- The new block becomes STATIC and the former STATIC block is erased to FREE (R164, R166). That this erase does not fail is the
model's choice (DESIGN CHOICE, log entry 50). -/
def Store.adoptStatic (x : Store) (j : Nat) : Store :=
  let x' := match x.staticBlock with
    | some i => x.modifyBlock i Block.erased
    | none => x
  x'.modifyBlock j (fun b => { b with state := .static })

/-- A record that stands complete, in the STATIC block or in a new one (R164, R166). -/
def Store.commitStatic (x : Store) (w : FlashWrite) : Store :=
  if w.newStatic then (x.commitWrite w).adoptStatic w.block else x.commitWrite w

/-- A journal write found no FREE block: the condition becomes FULL with its notice (R161), at the completion (DEDUCED, log
entry 16). -/
def State.storeFull (s : State) (kind : RecordKind) : State :=
  if s.store.conditionFull then s
  else (s.setStore { s.store with conditionFull := true }).notifyFault (.storeFull kind s.chain.lug)

/-- A write checkpoint completes (R161). -/
def State.checkpointDone (s : State) : State :=
  match s.store.inFlight, s.store.queue with
  | some f, .checkpoint :: _ =>
    (match f.write with
      | some w => s.setStore (s.store.commitWrite w)
      | none =>
        let s := s.storeFull .checkpoint
        s.setStore { s.store with skipped := satInc s.store.skipped }).finishStoreOp
  | _, _ => s

/-- A write period completes (R164, R161). -/
def State.periodDone (s : State) : State :=
  match s.store.inFlight, s.store.queue with
  | some f, .period _ :: _ =>
    (match f.write with
      | some w => s.setStore (s.store.commitWrite w)
      | none => s.storeFull .period).finishStoreOp
  | _, _ => s

/-- A write settings completes (R164); with no FREE block it is reported with kind and lug number, and the store condition
stays (DEDUCED, log entry 19). -/
def State.settingsDone (s : State) : State :=
  match s.store.inFlight, s.store.queue with
  | some f, .settings _ :: _ =>
    (match f.write with
      | some w => s.setStore (s.store.commitStatic w)
      | none => s.notifyFault (.storeFull .settings s.chain.lug)).finishStoreOp
  | _, _ => s

/-- A relocate static completes, with its copy or with none (R166). -/
def State.relocateDone (s : State) : State :=
  match s.store.inFlight, s.store.queue with
  | some f, .relocate :: _ =>
    (match f.write with
      | some w => s.setStore (s.store.commitStatic w)
      | none => s).finishStoreOp
  | _, _ => s

/-- An erase of the reclaim completes (R165): the block is FREE and the condition NORMAL; or the flash reports the
erase as failed and the block stays FULL, its count incremented, its records as they stand (DESIGN CHOICE, log
entry 34). The next reclaimable block follows, or the first one when another reclaim was asked for meanwhile. -/
def State.eraseDone (s : State) (failed : Bool) : State :=
  match s.store.erasing with
  | none => s
  | some i =>
    let x := if failed then s.store.modifyBlock i (fun b => { b with eraseCount := b.eraseCount + 1 })
      else { s.store.modifyBlock i Block.erased with conditionFull := false }
    let next := if s.store.reclaimAgain then 0 else i + 1
    (s.setStore (({ x with erasing := none, reclaimAgain := false }.testRelocation).startReclaim next)).settleStore

/-! ### What a cut leaves in flash (R160, R165, R167) -/

/-- A block whose header is unreadable; its records are lost with it. -/
def Block.unreadable (b : Block) : Block := { b with headerOk := false, records := [] }

/-- The flash when power is lost or RESET asserted: the record in flight is torn, unless its completion mark was
written; a block being erased has lost its records, and its header if the cut says so (DEDUCED, log entries 14 and 15). -/
def Store.cutFlash (x : Store) (cut : FlashCut) : List Block :=
  let x1 := match x.erasing with
    | some i => x.modifyBlock i (fun b => if cut.headerLost then b.unreadable else { b with records := [] })
    | none => x
  match x1.inFlight.bind InFlight.write with
  | none => x1.blocks
  | some w =>
    let x2 := x1.commitWrite { w with record := { w.record with mark := cut.markWritten } }
    match w.newStatic && cut.markWritten && cut.headerLost, x1.staticBlock with
    | true, some i => (x2.modifyBlock i Block.unreadable).blocks
    | _, _ => x2.blocks

end Sys2Proof.Machine
end

