-- ==== Sys2Proof/Machine/Tally.lean ====
section
/-! DEFINITION. The Tally Unit (chapter 9): decimal counters (R146), board results (R147 to R149), the order fill
(R152), the log tally (R154), and the period record (R156). -/

namespace Sys2Proof.Machine

/-- An addition to a counter of the given greatest value (R146). -/
def Counter.add (greatest n : Nat) (c : Counter) : Counter :=
  if c.saturated then c
  else if c.value + n ≤ greatest then { c with value := c.value + n }
  else { value := greatest, saturated := true }

/-- An addition to a counter of 8 digits. -/
def Counter.add8 (n : Nat) (c : Counter) : Counter := c.add Config.digits8 n
/-- An addition to a counter of 10 digits. -/
def Counter.add10 (n : Nat) (c : Counter) : Counter := c.add Config.digits10 n

/-- One more board or piece of so many twelfths in an account. -/
def Account.count1 (twelfths : Nat) (a : Account) : Account :=
  { count := a.count.add8 1, twelfths := a.twelfths.add10 twelfths }

/-- A piece's volume in twelfths: t · w · N (R147). -/
def Piece.volume (x : Piece) : Nat := x.key.thickness * x.width * x.key.length

/-- A board's result, as R63 and R67 hand it on. -/
inductive Result where
  | accepted (d : Decision)
  | missed
  | lost
deriving DecidableEq, Repr

/-- The piece of an ACCEPTED PIECE result. -/
def Result.piece : Result → Option Piece
  | .accepted d => d.piece
  | _ => none

/-- The volume a result adds: that of its piece, else none. -/
def Result.volume (r : Result) : Nat := r.piece.elim 0 Piece.volume

/-! ### The product tally (R147) -/

/-- One more piece in a bin. -/
def TallyBin.count1 (volume : Nat) (b : TallyBin) : TallyBin :=
  { b with pieces := b.pieces.add8 1, twelfths := b.twelfths.add10 volume }

/-- A new bin with its first piece. -/
def TallyBin.first (x : Piece) : TallyBin :=
  { key := x.key, width := x.width, pieces := Counter.zero.add8 1, twelfths := Counter.zero.add10 x.volume }

/-- The bin of a key. -/
def TallyBody.bin? (t : TallyBody) (key : ProductKey) : Option TallyBin := t.bins.find? fun b => b.key == key

/-- An accepted piece counted, with the fault raised once in a period (R147). -/
def LiveTally.countPiece (t : LiveTally) (period : Nat) (x : Piece) : LiveTally × Option FaultNotice :=
  let overflow : TallyBody := { t.body with overflow := t.body.overflow.count1 x.volume }
  match t.body.bin? x.key with
  | some b =>
    if b.width = x.width then
      ({ t with body := { t.body with
          bins := t.body.bins.map fun c => if c.key = x.key then c.count1 x.volume else c } }, none)
    else
      ({ t with body := overflow, widthFault := true },
       if t.widthFault then none else some (.tallyWidth x.key b.width x.width))
  | none =>
    if t.body.bins.length < Config.tallyBins then
      ({ t with body := { t.body with bins := t.body.bins ++ [TallyBin.first x] } }, none)
    else
      ({ t with body := overflow, fullFault := true }, if t.fullFault then none else some (.tallyFull x.key period))

/-- The chip, missed and lost counts, and the unattributed account for a board with no open log (R148). -/
def TallyBody.countBoard (t : TallyBody) (r : Result) (attributed : Bool) : TallyBody :=
  let t := match r with
    | .accepted d => if d.piece.isSome then t else { t with chips := t.chips.add8 1 }
    | .missed => { t with missed := t.missed.add8 1 }
    | .lost => { t with lost := t.lost.add8 1 }
  if attributed then t else { t with unattributed := t.unattributed.count1 r.volume }

/-! ### Orders (R150, R152) -/

/-- The notice that an order has filled (R152). -/
def Order.filledNotice (o : Order) (lug : Option Lug) (period : Nat) : Notice :=
  .orderFilled o.key o.target o.filled o.action lug period

/-- An order with a piece's volume added (R152): it becomes FILLED when OPEN and the decimal compare finds filled at
or above target. -/
def Order.fill (o : Order) (volume : Nat) : Order :=
  let filled := o.filled.add10 volume
  { o with filled := filled, state := if o.target ≤ filled.value then .filled else o.state }

/-- The order record of a key. -/
def Tally.order? (t : Tally) (key : ProductKey) : Option Order := t.orders.find? fun o => o.key == key

/-- The order table with the record of a key replaced in its place. -/
def Tally.putOrder (t : Tally) (o : Order) : Tally :=
  { t with orders := t.orders.map fun x => if x.key = o.key then o else x }

/-- The order fill of an accepted piece (R152). -/
def State.fillOrder (s : State) (x : Piece) (lug : Lug) : State :=
  match s.tally.order? x.key with
  | none => s
  | some o =>
    let o' := o.fill x.volume
    let s' := s.setTally (s.tally.putOrder o')
    if o.state = .isOpen ∧ o'.state = .filled then s'.notify (o'.filledNotice (some lug) s.tally.period) else s'

/-! ### Board results -/

/-- The accepted count at an ACCEPTED result (R149). -/
def State.countAccepted (s : State) : State :=
  if s.tally.interval ≤ s.tally.accepted + 1 then (s.setTally { s.tally with accepted := 0 }).requestCheckpoint
  else s.setTally { s.tally with accepted := s.tally.accepted + 1 }

/-- The product tally of an accepted piece, with its fault (R147). -/
def State.tallyPiece (s : State) (x : Piece) : State :=
  let counted := s.tally.live.countPiece s.tally.period x
  let s := s.setTally { s.tally with live := counted.1 }
  match counted.2 with
  | some f => s.notifyFault f
  | none => s

/-- The board counts and the unattributed account (R148). -/
def State.tallyBoard (s : State) (r : Result) (attributed : Bool) : State :=
  s.setTally { s.tally with live := { s.tally.live with body := s.tally.live.body.countBoard r attributed } }

/-- A board's result at the Tally Unit: the counts of R147 and R148, the order fill of R152, then the accepted count
of R149. `attributed` says that the board's log id names an open log. -/
def State.tallyResult (s : State) (r : Result) (attributed : Bool) (lug : Lug) : State :=
  match r with
  | .accepted d =>
    (match d.piece with
      | some x => (((s.tallyPiece x).tallyBoard r attributed).fillOrder x lug)
      | none => s.tallyBoard r attributed).countAccepted
  | _ => s.tallyBoard r attributed

/-! ### The log tally (R154) -/

/-- A recovery record added to a class. -/
def LogClass.addLog (r : Recovery) (c : LogClass) : LogClass :=
  { logs := c.logs.add8 1, volume := c.volume.add10 r.figures.volume,
    boards := c.boards.add8 (r.pieces + r.chips + r.missedLost), twelfths := c.twelfths.add10 r.twelfths }

/-- A recovery record added to the log tally (R154). -/
def State.tallyLog (s : State) (r : Recovery) : State :=
  s.setTally { s.tally with live := { s.tally.live with body := { s.tally.live.body with
    classes := s.tally.live.body.classes.modify r.figures.diameterClass (LogClass.addLog r) } } }

/-! ### Periods (R155, R156) -/

/-- The next period number, wrapping from 65535 to 1 (R155). -/
def nextPeriod (n : Nat) : Nat := if 65535 ≤ n then 1 else n + 1

/-- The period record of the live tally as it stands (R156). -/
def State.periodRecord (s : State) : PeriodRecord :=
  { period := s.tally.period, lug := s.chain.lug, body := s.tally.live.body }

/-- An accepted TALLY CLOSE (R156). -/
def State.closeTally (s : State) : State :=
  let s' := s.queueStoreOp (.period s.periodRecord)
  (s'.setTally { s'.tally with live := LiveTally.empty, period := nextPeriod s'.tally.period, accepted := 0 }).requestCheckpoint

end Sys2Proof.Machine
end

