-- ==== Sys2Proof/Machine/Logs.lean ====
section
/-! DEFINITION. The Log Scaler (chapter 2): cleanup and scaling of a record (R16 to R19), the log queue (R20 to
R22), attribution (R23), the straggler timer (R24), results (R25), close and recovery record (R26, R27). -/

namespace Sys2Proof.Machine

/-! ### Cleanup and scaling -/

/-- One received diameter clamped (R17); 0 is a station without a reading. -/
def clampDiameter (d : Nat) : Nat := if d = 0 then 0 else max 20 (min d 600)

/-- The nearest read station of a list that starts at a station and goes away from it. -/
def nearestRead (ds : List Nat) : Option Nat := ds.find? (· ≠ 0)

/-- The value a missing station takes from its neighbours (R18). -/
def fillValue (before after : Option Nat) : Nat :=
  match before, after with
  | some x, some y => (x + y) / 2
  | none, some y => y
  | some x, none => x
  | none, none => 0

/-- Station `i` of clamped diameters after the fill (R18). -/
def filledAt (ds : List Nat) (i : Nat) : Nat :=
  let d := ds.getD i 0
  if d = 0 then fillValue (nearestRead (ds.take i).reverse) (nearestRead (ds.drop (i + 1))) else d

/-- Every station filled (R18). -/
def fillStations (ds : List Nat) : List Nat := (List.range ds.length).map (filledAt ds)

/-- The section sum: D_i² + D_{i+1}² over the sections (R19). -/
def sectionSum : List Nat → Nat
  | x :: y :: rest => x * x + y * y + sectionSum (y :: rest)
  | _ => 0

/-- The scaling figures of cleaned diameters (R19). -/
def scaleLog (ds : List Nat) : LogFigures :=
  let first := ds.headD 0
  let last := ds.getLastD 0
  let n := ds.length
  { length := n - 1, sed := min first last, led := max first last,
    volume := (355 * sectionSum ds + 65088) / 130176,
    taper := 10 * (max first last - min first last) / (n - 1),
    diameterClass := min 15 ((min first last - 40) / 20) }

/-! ### Closing a log (R26, R27) -/

/-- The ratio of a recovery record (R27). -/
def recoveryRatio (twelfths volume : Nat) : Nat := min 65535 (10000 * twelfths / (12 * volume))

/-- The recovery record of a log as it stands (R27). -/
def Log.recovery (l : Log) : Recovery :=
  { id := l.id, figures := l.figures, announced := l.announced, seen := l.seen, pieces := l.pieces, chips := l.chips,
    missedLost := l.missedLost, twelfths := l.twelfths, ratio := recoveryRatio l.twelfths l.figures.volume,
    flags := l.flags }

/-- The three things done at a close: the log tally, the LOG RECOVERY notice, the removal (R26). -/
def State.closeLog (s : State) (l : Log) : State :=
  let s := (s.tallyLog l.recovery).notify (.logRecovery l.recovery)
  s.setLogs { s.logs with queue := s.logs.queue.filter fun x => x.id ≠ l.id }

/-- The record of an open log, by its id. -/
def LogScaler.log? (x : LogScaler) (id : Nat) : Option Log := x.queue.find? fun l => l.id == id

/-- A log's record changed. -/
def State.updateLog (s : State) (id : Nat) (f : Log → Log) : State :=
  s.setLogs { s.logs with queue := s.logs.queue.map fun l => if l.id = id then f l else l }

/-- An ordinary close, when the log is DRAINING with pending 0 (R26). -/
def State.closeIfDone (s : State) (id : Nat) : State :=
  match s.logs.log? id with
  | some l => if l.state = .draining ∧ l.pending = 0 then s.closeLog l else s
  | none => s

/-- A forced close (R26): FORCED set, timer stopped, the log's boards detached, then the close. -/
def State.forceClose (s : State) (l : Log) : State :=
  let s := s.setTrack { s.track with
    boards := s.track.boards.map fun b => if b.logId = some l.id then { b with logId := none } else b }
  let s := s.setLogs { s.logs with forcedCloses := satInc s.logs.forcedCloses }
  s.closeLog { l with flags := { l.flags with forced := true }, timer := l.timer.stop }

/-! ### Log scan records (R16, R20) -/

/-- The next log id after one: 65535 wraps to 1 (R20). -/
def nextLogId (n : Nat) : Nat := if 65535 ≤ n then 1 else n + 1

/-- A new log at its creation (R20). -/
def Log.created (id : Nat) (figures : LogFigures) (clamped filled : Bool) : Log :=
  { id := id, state := .scanned, figures := figures, announced := none, seen := 0, pending := 0, doneCount := 0,
    pieces := 0, chips := 0, missedLost := 0, twelfths := 0,
    flags := { LogFlags.clear with clamped := clamped, filled := filled },
    timer := LugCounter.idle Config.defaultStraggler .ignore }

/-- The oldest log forced out of a full queue (R20). -/
def State.makeLogRoom (s : State) : State :=
  if Config.openLogs ≤ s.logs.queue.length then
    match s.logs.queue with
    | l :: _ => s.forceClose l
    | [] => s
  else s

/-- A cleaned and scaled record made into a log (R20). -/
def State.createLog (s : State) (figures : LogFigures) (clamped filled : Bool) : State :=
  let s := s.makeLogRoom
  s.setLogs { s.logs with queue := s.logs.queue ++ [Log.created s.logs.nextId figures clamped filled],
                          nextId := nextLogId s.logs.nextId }

/-- A log scan record taken whole (R16 to R20). -/
def State.takeLogScan (s : State) (diameters : List Nat) : State :=
  let n := diameters.length
  if n < 2 ∨ 41 < n then
    (s.setLogs { s.logs with shortRecords := satInc s.logs.shortRecords }).notifyFault (.logShort n)
  else if diameters.all (· = 0) then
    (s.setLogs { s.logs with emptyRecords := satInc s.logs.emptyRecords }).notifyFault (.logEmpty n)
  else
    let clamped := diameters.map clampDiameter
    s.createLog (scaleLog (fillStations clamped)) (clamped ≠ diameters) (clamped.any (· = 0))

/-! ### LOG START, LOG CUT, attribution, stragglers -/

/-- LOG START (R21): the reply code, and the oldest SCANNED log made SAWING. -/
def State.startLog (s : State) : State × ReplyCode :=
  if s.logs.queue.any fun l => l.state == .sawing then (s, .state)
  else
    match s.logs.queue.find? fun l => l.state == .scanned with
    | some l => (s.updateLog l.id fun x => { x with state := .sawing }, .accepted)
    | none => (s, .state)

/-- A log at an accepted LOG CUT (R22). -/
def Log.atCut (l : Log) (count straggler : Nat) : Log :=
  let l := { l with announced := some count }
  if l.seen < count then { l with state := .cut, timer := { l.timer with reload := straggler }.trigger }
  else { l with state := .draining, flags := { l.flags with countMismatch := l.flags.countMismatch || decide (count < l.seen) } }

/-- LOG CUT with its fields in range (R22). -/
def State.cutLog (s : State) (id count straggler : Nat) : State × ReplyCode :=
  match s.logs.log? id with
  | some l =>
    if l.state = .sawing then ((s.updateLog id fun x => x.atCut count straggler).closeIfDone id, .accepted)
    else (s, .state)
  | none => (s, .state)

/-- A log that takes the next board (R23): SAWING with its seen count below 65535, or CUT with room. -/
def Log.takesBoard (l : Log) : Bool :=
  match l.state with
  | .sawing => decide (l.seen < 65535)
  | .cut => decide (l.seen < l.announced.getD 0)
  | _ => false

/-- A log with one more board attributed (R23). -/
def Log.attribute (l : Log) : Log :=
  let l := { l with seen := l.seen + 1, pending := l.pending + 1 }
  if l.state = .cut ∧ l.announced = some l.seen then { l with state := .draining, timer := l.timer.stop } else l

/-- Attribution of a board at its assembly close (R23). -/
def State.attribute (s : State) (lug : Lug) : State :=
  match s.logs.queue.find? Log.takesBoard with
  | some l => (s.updateLog l.id Log.attribute).updateBoard lug fun b => { b with logId := some l.id }
  | none => s

/-- A straggler expiry serviced (R24). -/
def Log.straggle (l : Log) : Log :=
  let l := { l with timer := l.timer.serviced }
  if l.state = .cut then { l with state := .draining, flags := { l.flags with short := true } } else l

/-- The straggler expiry of a log whose timer has one pending (R24). Only a log that it finds CUT may close by it; one in any other
state is left as it was. -/
def State.serviceStraggler (s : State) (id : Nat) : State :=
  match s.logs.log? id with
  | some l =>
    if l.timer.expiryPending then
      if l.state = .cut then (s.updateLog id Log.straggle).closeIfDone id else s.updateLog id Log.straggle
    else s
  | none => s

/-! ### Board results (R25) -/

/-- A log with a board's result counted (R25). -/
def Log.countResult (l : Log) (r : Result) : Log :=
  let l := { l with pending := l.pending - 1, doneCount := l.doneCount + 1 }
  match r with
  | .accepted d =>
    match d.piece with
    | some x => { l with pieces := l.pieces + 1, twelfths := l.twelfths + x.volume }
    | none => { l with chips := l.chips + 1 }
  | _ => { l with missedLost := l.missedLost + 1 }

/-- A board's result at the Log Scaler (R25). -/
def State.logResult (s : State) (r : Result) (id : Nat) : State :=
  (s.updateLog id fun l => l.countResult r).closeIfDone id

/-- The board's log id names an open log. -/
def State.attributed (s : State) (b : Board) : Bool :=
  match b.logId with
  | some id => (s.logs.log? id).isSome
  | none => false

/-- A board's result handed on: to the Tally Unit, then to the Log Scaler (R63, R67). -/
def State.boardResult (s : State) (b : Board) (r : Result) : State :=
  let s := s.tallyResult r (s.attributed b) b.lug
  match b.logId with
  | some id => s.logResult r id
  | none => s

end Sys2Proof.Machine
end

