-- ==== Sys2Proof/Machine/Ports.lean ====
section
/-! DEFINITION. The Trimmer Port (R129 to R141) and the Sorter Port (R142, R143), each as operations on its own
record. -/

namespace Sys2Proof.Machine

/-! ### The trimmer port -/

/-- A decision in the presented slot is WAITING. -/
def Trimmer.waitingPresented (t : Trimmer) : Bool := t.presented.isSome && !t.onLines

/-- `x` is an older board than `y`: the greater offset (R130). -/
def older (now x y : Lug) : Bool := decide (offsetOf now y < offsetOf now x)

/-- A WAITING presented decision and an older staged one are exchanged (R130). -/
def Trimmer.exchange (now : Lug) (t : Trimmer) : Trimmer :=
  match t.presented, t.staged with
  | some x, some y => if !t.onLines && older now y.lug x.lug then { t with presented := some y, staged := some x } else t
  | _, _ => t

/-- The presented decision goes on the lines when it is WAITING, the phase READY and the line RUNNING (R132). -/
def Trimmer.present (running : Bool) (t : Trimmer) : Trimmer :=
  match t.presented with
  | some x =>
    if !t.onLines && t.phase == .ready && running then
      { t with
        presented := some { x with again := false }, onLines := true, phase := .on,
        lines := { saws := x.mask, tag := trimTag x.lug, dv := true }, lastTag := trimTag x.lug,
        representations := if x.again then satInc t.representations else t.representations }
    else t
  | none => t

/-- The 18 lines driven inactive (R129). -/
def Trimmer.dropLines (t : Trimmer) : Trimmer := { t with lines := TrimLines.inactive, onLines := false }

/-- A commit's decision placed by the table of R131; the second part says whether it was placed. -/
def Trimmer.place (now : Lug) (x : Slot) (t : Trimmer) : Trimmer × Bool :=
  match t.presented, t.staged with
  | none, _ => ({ t with presented := some x, onLines := false }, true)
  | some y, none =>
    if !t.onLines && older now x.lug y.lug then ({ t with presented := some x, staged := some y }, true)
    else ({ t with staged := some x }, true)
  | some _, some _ => ({ t with overruns := satInc t.overruns }, false)

/-- Entry at commit: placed, and presented at once when R132 allows (R131). -/
def Trimmer.enter (now : Lug) (running : Bool) (x : Slot) (t : Trimmer) : Trimmer × Bool :=
  let r := t.place now x
  (r.1.present running, r.2)

/-- The staged decision moves up as WAITING (R135, R136). -/
def Trimmer.moveUp (t : Trimmer) : Trimmer := { t with presented := t.staged, onLines := false, staged := none }

/-- The phase when a presentation is cut short (R136, R137, R139): READY in INTERLOCKED mode; in PULSED mode the gap
begins. -/
def Trimmer.cutPhase (t : Trimmer) : Phase :=
  match t.mode with
  | .interlocked => .ready
  | .pulsed => .recovering

/-- The acceptance of the presented decision, ON (R133, R134, R135). -/
def Trimmer.accept (t : Trimmer) : Trimmer :=
  { t.dropLines.moveUp with phase := .recovering, accepted := satInc t.accepted }

/-- The withdrawal of a board's decision at its deadline (R136); absent when no slot holds it. -/
def Trimmer.withdraw (running : Bool) (lug : Lug) (t : Trimmer) : Option Trimmer :=
  let counted := { t with deadlines := satInc t.deadlines }
  if (t.presented.map Slot.lug) = some lug then
    if t.onLines then some (Trimmer.present running { counted.dropLines.moveUp with phase := t.cutPhase })
    else some (counted.moveUp.present running)
  else if (t.staged.map Slot.lug) = some lug then some { counted with staged := none }
  else none

/-- A line stop (R137): the decision on the lines is marked to be presented again. A mark that a staged decision carries
stays (DESIGN CHOICE, log entry 41). -/
def Trimmer.stop (now : Lug) (t : Trimmer) : Trimmer :=
  if t.onLines then
    Trimmer.exchange now
      { t.dropLines with presented := t.presented.map (fun x => { x with again := true }), phase := t.cutPhase }
  else t.dropLines.exchange now

/-- CLEAR LINE (R139). -/
def Trimmer.clear (t : Trimmer) : Trimmer :=
  { t.dropLines with presented := none, staged := none, phase := if t.onLines then t.cutPhase else t.phase }

/-- The phase becomes READY and a WAITING decision goes on the lines when R132 allows (R133, R134). -/
def Trimmer.recover (running : Bool) (t : Trimmer) : Trimmer :=
  Trimmer.present running { t with phase := .ready }

/-- The port holds a decision or its phase is not READY (R140). -/
def Trimmer.occupied (t : Trimmer) : Bool := t.presented.isSome || t.staged.isSome || t.phase != .ready

/-- The mode and the width set from a SAVE SETTINGS; a change to INTERLOCKED finding ACK high makes the phase
RECOVERING (R140). -/
def Trimmer.configure (t : Trimmer) (mode : Handshake) (width : Nat) (ack : Bool) : Trimmer :=
  { t with mode := mode, width := width,
           phase := if t.mode = .pulsed ∧ mode = .interlocked ∧ ack = true then .recovering else t.phase }

/-! ### The sorter port -/

/-- The bin of a product key's entry. -/
def Sorter.binOf (x : Sorter) (key : ProductKey) : Option Nat := (x.bins.find? fun e => e.1 == key).map Prod.snd

/-- The bin and stamp codes of a board at the sort (R143). -/
def Sorter.codes (x : Sorter) (state : BoardState) (d : Option Decision) : SortResult :=
  if state = .accepted then
    match d.bind Decision.piece with
    | some piece =>
      if piece.key.grade = 6 then { bin := (x.binOf piece.key).getD 31, stamp := 6 }
      else { bin := (x.binOf piece.key).getD x.defaultBin, stamp := piece.key.grade }
    | none => { bin := 0, stamp := 0 }
  else { bin := 31, stamp := 7 }

/-- A strobe begins at the pulse width in force (R142, R140). -/
def Sorter.begin (x : Sorter) (codes : SortResult) (width : Nat) : Sorter :=
  { x with strobe := .strobing codes width, delivered := satInc x.delivered }

/-- The delivery of a sort event's strobe by the strobe state (R142). -/
def Sorter.deliver (x : Sorter) (codes : SortResult) (width : Nat) : Sorter :=
  match x.strobe with
  | .idle => x.begin codes width
  | _ =>
    match x.waiting with
    | none => { x with waiting := some codes }
    | some _ => { x with overruns := satInc x.overruns }

/-- The end of a strobe: the lines go inactive and a gap of one pulse width begins (R142). -/
def Sorter.strobeEnd (x : Sorter) : Sorter :=
  match x.strobe with
  | .strobing _ width => { x with strobe := .gap width }
  | _ => x

/-- The end of the gap: idle, and the waiting strobe is delivered (R142). -/
def Sorter.gapEnd (x : Sorter) (width : Nat) : Sorter :=
  match x.strobe with
  | .gap _ =>
    match x.waiting with
    | some codes => Sorter.begin { x with waiting := none } codes width
    | none => { x with strobe := .idle }
  | _ => x

/-- The levels of the sorter's lines: bin, stamp, STROBE (R142). -/
def Sorter.lines (x : Sorter) : Nat × Nat × Bool :=
  match x.strobe with
  | .strobing codes _ => (codes.bin, codes.stamp, true)
  | _ => (0, 0, false)

end Sys2Proof.Machine
end

