-- ==== Sys2Proof/Machine/Watches.lean ====
section
/-! DEFINITION. The Watch Unit (chapter 11): matching (R172), hits (R173), captures (R174), disarming (R176). -/

namespace Sys2Proof.Machine

/-- A board meets a condition (R172). -/
def Board.meets (b : Board) : Condition → Bool
  | .log id => b.logId == some id
  | .product key => ((b.decision.bind Decision.piece).map Piece.key) == some key
  | .grade g => ((b.decision.bind Decision.piece).map fun x => x.key.grade) == some g
  | .override st =>
    match b.override, st with
    | some o, .a => o.owner == .a
    | some o, .b => o.owner == .b
    | some _, .either => true
    | none, _ => false
  | .missed => b.state == .missed
  | .chip => b.decision.elim false fun d => d.piece.isNone
  | .flags wantB wantD => flagsHeld b.flags (b.decision.elim DecisionFlags.clear Decision.flags) wantB wantD

/-- A capture offered to the buffer (R174), with its outcome. -/
def Watch.offer (w : Watch) (c : Capture) : Watch × CaptureOutcome :=
  if w.captures.length < Config.captureCapacity then ({ w with captures := w.captures ++ [c] }, .stored)
  else
    ({ w with discarded := satInc w.discarded,
              slots := w.slots.modify c.slot fun x => { x with captureLost := true } }, .lost)

/-- A hit carried out in full (R173 steps 1 to 5). -/
def State.hit (s : State) (k : Nat) (p : WatchProgram) (point : Point) (lug : Lug) : State :=
  let s := s.updateBoard lug fun b => { b with watchHits := b.watchHits.set k true }
  let w := { s.watch with slots := s.watch.slots.modify k fun x =>
    { x with hits := satInc x.hits, lastHit := some lug } }
  let offered : Watch × CaptureOutcome := match p.capture, s.board? lug with
    | true, some b => w.offer { slot := k, point := point, lug := s.chain.lug, board := b }
    | _, _ => (w, .none)
  let hits := (offered.1.slots[k]?).elim 0 WatchSlot.hits
  let s := (s.setWatch offered.1).notify
    (.watchHit k point p.condition lug s.chain.lug hits offered.2)
  if p.oneShot then
    s.setWatch { s.watch with slots := s.watch.slots.modify k fun x => { x with state := .disarmed } }
  else s

/-- A slot is tested at this handing, and the board meets its condition (R173). -/
def WatchSlot.hitBy (w : WatchSlot) (k : Nat) (point : Point) (b : Board) : Option WatchProgram :=
  match w.program with
  | some p =>
    if w.state = .armed ∧ p.point = point ∧ b.watchHits.getD k false = false ∧ b.meets p.condition = true then some p
    else none
  | none => none

/-- One slot at a handing (R173). -/
def State.testSlot (s : State) (point : Point) (lug : Lug) (k : Nat) : State :=
  match s.watch.slots[k]?, s.board? lug with
  | some w, some b =>
    match w.hitBy k point b with
    | some p => s.hit k p point lug
    | none => s
  | _, _ => s

/-- A board handed to the Watch Unit at a point: the slots in slot number order (R173). -/
def State.watchHand (s : State) (point : Point) (lug : Lug) : State :=
  (List.range Config.watchSlots).foldl (fun s k => s.testSlot point lug k) s

/-- A run open or run close at the Watch Unit: every ARMED LOCAL slot becomes DISARMED (R176). -/
def Watch.disarmLocal (w : Watch) : Watch :=
  { w with slots := w.slots.map fun x =>
      if x.state = .armed ∧ x.program.map WatchProgram.scope = some .localRun then { x with state := .disarmed } else x }

/-- A slot programmed and armed (R170). -/
def Watch.program (w : Watch) (k : Nat) (p : WatchProgram) : Watch :=
  { w with slots := w.slots.modify k fun _ =>
      { state := .armed, program := some p, hits := 0, lastHit := none, captureLost := false } }

/-- A slot emptied (R171). -/
def Watch.clearSlot (w : Watch) (k : Nat) : Watch :=
  { w with slots := w.slots.modify k fun _ => WatchSlot.cleared }

end Sys2Proof.Machine
end

