-- ==== Sys2Proof/Machine/Tracking.lean ====
section
/-! DEFINITION. The Tracking Table (chapter 4): the offset events of a boundary (R57), commit (R60), results (R61 to
R63), sort and removal (R64), the solve completion (R55, R56, R91), and CLEAR LINE (R67). -/

namespace Sys2Proof.Machine

/-- The line is RUNNING. -/
def State.running (s : State) : Bool := decide (s.chain.line = .running)

/-! ### Results -/

/-- A board enters a result state (R53, R63): its record changes, the displays that show it are refreshed (R122), and
its result is handed on. -/
def State.enterResult (s : State) (b : Board) (f : Board → Board) (r : Result) : State :=
  ((s.updateBoard b.lug f).refreshShowing b.lug).boardResult b r

/-- A board becomes MISSED with the flag that says why (R60, R62, R136). -/
def State.missBoard (s : State) (b : Board) (f : BoardFlags → BoardFlags) : State :=
  s.enterResult b (fun x => { x with state := .missed, flags := f x.flags, commitDue := false }) .missed

/-- The write of state ACCEPTED that the Trimmer Port offers, taken when the board is COMMITTED (R61, R63). -/
def State.acceptBoard (s : State) (lug : Lug) : State :=
  match s.board? lug with
  | some b =>
    match b.state, b.decision with
    | .committed, some d => s.enterResult b (fun x => { x with state := .accepted }) (.accepted d)
    | _, _ => s
  | none => s

/-! ### Commit (R60) -/

/-- The commit made for a board whose decision stands: to the Trimmer Port, then to the Watch Unit (R60, R131). -/
def State.makeCommit (s : State) (lug : Lug) : State :=
  match s.board? lug with
  | some b =>
    match b.decision with
    | some d =>
      let placed := s.trimmer.enter s.chain.lug s.running { lug := lug, mask := d.mask, again := false }
      let s := s.setTrimmer placed.1
      let s := if placed.2 then
          (s.updateBoard lug fun x => { x with state := .committed, commitDue := false }).refreshShowing lug
        else s.missBoard b fun f => { f with trimOverrun := true }
      s.watchHand .commit lug
    | none => s
  | none => s

/-- The commit event at offset C (R60). -/
def State.commitEvent (s : State) (lug : Lug) : State :=
  match s.board? lug with
  | some b =>
    match b.state with
    | .solved => s.makeCommit lug
    | .solving => s.updateBoard lug fun x => { x with commitDue := true }
    | _ => s
  | none => s

/-! ### The trimmer deadline (R62, R136) -/

/-- The deadline of a COMMITTED board at the Trimmer Port (R136). -/
def State.withdrawDecision (s : State) (b : Board) : State :=
  match s.trimmer.withdraw s.running b.lug with
  | some t => (s.setTrimmer t).missBoard b fun f => { f with trimDeadline := true }
  | none => s

/-- The trimmer deadline event at offset T (R62). -/
def State.deadlineEvent (s : State) (lug : Lug) : State :=
  match s.board? lug with
  | some b =>
    match b.state with
    | .solving =>
      let s := s.setSolver (s.solver.withdraw lug)
      let s := s.setTrack { s.track with notCommitted := satInc s.track.notCommitted }
      s.missBoard b fun f => { f with notCommitted := true }
    | .committed => s.withdrawDecision b
    | _ => s
  | none => s

/-! ### Station marks and window ends (R58, R115) -/

/-- A station's selection and last board changed, with a refresh of its display (R115). -/
def State.select (s : State) (st : StationId) (selection last : Option Lug) : State :=
  (s.setStation st { s.station st with selection := selection, last := last }).refresh st

/-- A station mark event (R58, R115). -/
def State.markEvent (s : State) (st : StationId) (lug : Lug) : State :=
  (s.updateBoard lug fun b => b.setWindow st .isOpen).select st (some lug) none

/-- The youngest board whose window at a station is OPEN. -/
def State.youngestOpen (s : State) (st : StationId) : Option Lug :=
  ((s.track.boards.filter fun b => b.window st == .isOpen).getLast?).map Board.lug

/-- A window end event (R58, R115). -/
def State.windowEndEvent (s : State) (st : StationId) (lug : Lug) : State :=
  let s := s.updateBoard lug fun b => b.setWindow st .closed
  if (s.station st).selection = some lug then
    match s.youngestOpen st with
    | some y => s.select st (some y) none
    | none => s.select st none (some lug)
  else s

/-! ### Sort and removal (R64, R65) -/

/-- The BOARD REPORT of a record (R65). -/
def Board.report (b : Board) (result : SortResult) : BoardReport :=
  { lug := b.lug, logId := b.logId, runAtSolve := b.runAtSolve, final := b.state, decision := b.decision,
    sort := result, override := b.override, flags := b.flags, dropped := 0 }

/-- The last board of a station has left the table (R115). -/
def State.dropLast (s : State) (st : StationId) (lug : Lug) : State :=
  if (s.station st).last = some lug then s.select st (s.station st).selection none else s

/-- A record removed from the table (R64 step 4). -/
def State.removeBoard (s : State) (lug : Lug) : State :=
  ((s.setTrack { s.track with boards := s.track.boards.filter fun b => b.lug ≠ lug }).dropLast .a lug).dropLast .b lug

/-- The sort event at offset S, for a board in a result state (R64). -/
def State.sortEvent (s : State) (lug : Lug) : State :=
  match s.board? lug with
  | some b =>
    if b.state = .accepted ∨ b.state = .missed then
      let codes := s.sorter.codes b.state b.decision
      let s := s.setSorter (s.sorter.deliver codes s.trimmer.width)
      let s := s.updateBoard lug fun x => { x with sort := some codes }
      let s := s.watchHand .report lug
      let s := s.notify (.boardReport (b.report codes))
      s.removeBoard lug
    else s
  | none => s

/-! ### The offset events of a boundary (R57) -/

/-- A station's window end offset: min(mark + W, C) (section 1.6). -/
def LineConfig.windowEnd (c : LineConfig) (st : StationId) : Nat := min (c.mark st + c.window) c.commit

/-- The events of one board whose offset it has just reached, in the order of the table of R57. -/
def State.offsetEvents (s : State) (lug : Lug) : State :=
  let c := s.chain.config
  let k := offsetOf s.chain.lug lug
  let s := if k = c.markA then s.markEvent .a lug else s
  let s := if k = c.markB then s.markEvent .b lug else s
  let s := if k = c.windowEnd .a then s.windowEndEvent .a lug else s
  let s := if k = c.windowEnd .b then s.windowEndEvent .b lug else s
  let s := if k = c.commit then s.commitEvent lug else s
  let s := if k = c.deadline then s.deadlineEvent lug else s
  if k = c.sort then s.sortEvent lug else s

/-- A segment as opened (R34). -/
def Segment.opened : Segment :=
  { coverage := .unknown, thickness := 0, width := 0, wane := 0, defect := none, split := none, grade := none }

/-- A board record as opened (R34, R51). -/
def Board.opened (lug : Lug) (run : Option Nat) : Board :=
  { lug := lug, state := .assembling, logId := none, assemblyRun := run, runAtSolve := none,
    segments := List.replicate 22 Segment.opened, extent := none, decision := none, override := none,
    generation := none, windowA := .notYet, windowB := .notYet, commitDue := false, sort := none,
    flags := BoardFlags.clear, watchHits := List.replicate Config.watchSlots false }

/-- The Tracking Table's part of a boundary: a record for the new lug when wood is seen (R51), then the offset events
of the boards held, oldest first (R57). -/
def State.trackBoundary (s : State) (presence : Bool) : State :=
  let s := if presence then
      s.setTrack { s.track with
        boards := s.track.boards ++ [Board.opened s.chain.lug (s.solver.run.map Run.number)] }
    else s
  (s.track.boards.map Board.lug).foldl State.offsetEvents s

/-! ### Solve completion (R55, R56, R91) -/

/-- The record with a solve's results written, and RUN_STRADDLE where the runs differ (R55 step 1, R91). -/
def Board.writeSolve (b : Board) (v : Solve) : Board :=
  let run := v.input.run.map Run.number
  { b with
    decision := some (decisionOf v.input v.reason), runAtSolve := run, generation := some v.input.generation,
    segments := gradeSegments v.input,
    flags := { b.flags with runStraddle := b.flags.runStraddle || decide (run ≠ v.input.assemblyRun) } }

/-- The board's state settled after a completion (R55 step 3). -/
def State.settleSolve (s : State) (lug : Lug) (more : Bool) : State :=
  match s.board? lug with
  | some b =>
    if more then s
    else if b.commitDue then s.makeCommit lug
    else s.updateBoard lug fun x => { x with state := .solved }
  | none => s

/-- A completion at the Tracking Table: taken in SOLVING (R55), discarded otherwise (R56). -/
def State.takeSolve (s : State) (v : Solve) (more : Bool) : State :=
  match s.board? v.lug with
  | some b =>
    if b.state = .solving then
      let s := s.updateBoard v.lug fun x => x.writeSolve v
      let s := s.watchHand .solve v.lug
      (s.settleSolve v.lug more).refreshShowing v.lug
    else s
  | none => s

/-- The completion of the solve in progress (R91). -/
def State.completeSolve (s : State) : State :=
  match s.solver.inProgress with
  | none => s
  | some v =>
    let more := s.solver.queue.any fun e => e.1 == v.lug
    let s := s.setSolver { s.solver with completed := satInc s.solver.completed }
    let s := s.takeSolve v more
    (s.setSolver { s.solver with inProgress := none }).beginSolve

/-! ### CLEAR LINE (R67, R28, R48, R92, R139, R127) -/

/-- A board has no result yet (R67 step 1). -/
def Board.unresolved (b : Board) : Bool :=
  match b.state with
  | .accepted => false
  | .missed => false
  | _ => true

/-- One record removed by CLEAR LINE, with its LOST result if it has none (R67). -/
def State.loseBoard (s : State) (lug : Lug) : State :=
  match s.board? lug with
  | some b =>
    let s := if b.unresolved then s.boardResult b .lost else s
    s.setTrack { s.track with boards := s.track.boards.filter fun x => x.lug ≠ lug }
  | none => s

/-- CLEAR LINE at the Scan Assembler (R48). -/
def Assembler.clearLine (a : Assembler) : Assembler :=
  { a with boardPresent := false, cleared := a.cleared || a.boardPresent,
           headsReceived := List.replicate 11 false, held := none, answered := false }

/-- CLEAR LINE (R67). -/
def State.clearLine (s : State) : State :=
  let s := (s.track.boards.map Board.lug).foldl State.loseBoard s
  let s := s.setScan s.scan.clearLine
  let s := s.setSolver { s.solver with queue := [] }
  let s := s.setTrimmer s.trimmer.clear
  (s.select .a none none).select .b none none

end Sys2Proof.Machine
end

