-- ==== Sys2Proof/Machine/Scan.lean ====
section
/-! DEFINITION. The Scan Assembler (chapter 3): head frames (R35 to R37), defect frames (R43, R44, R47), the close of
a window (R38 to R40, R45, R46), and run changes (R42). -/

namespace Sys2Proof.Machine

/-! ### Head frames -/

/-- A frame's tag against the current lug (R36). -/
inductive TagMatch where
  | board (lug : Lug)
  | noBoard
  | late
deriving DecidableEq, Repr

/-- The match of a lug tag (R36, R44). -/
def Assembler.matchTag (a : Assembler) (tag : Byte) : TagMatch :=
  match a.currentLug with
  | some lug => if lugTag lug = tag then if a.boardPresent then .board lug else .noBoard else .late
  | none => .late

/-- A frame discarded for want of a board: counted, unless the cleared mark is set (R36, R44). -/
def Assembler.disagree (a : Assembler) : Assembler :=
  if a.cleared then a else { a with eyeDisagree := satInc a.eyeDisagree }

/-- A frame discarded as late (R36, R44). -/
def Assembler.countLate (a : Assembler) : Assembler := { a with late := satInc a.late }

/-- A frame discarded for a wrong head number (R35, R43). -/
def Assembler.countBad (a : Assembler) (link : Nat) : Assembler := { a with badFrames := bumpAt a.badFrames link }

/-- The coverage a code of a head frame names (section 12.9). -/
def coverageOf (code : Byte) : Coverage :=
  match code.toNat with
  | 0 => .none
  | 1 => .part
  | 2 => .full
  | _ => .unknown

/-- A segment written from a head frame, and whether it sets CLAMPED (R37). -/
def fillSegment (x : Segment) (r : RawSegment) : Segment × Bool :=
  match coverageOf r.coverage with
  | .none => ({ x with coverage := .none, thickness := 0, width := 0, wane := 0 }, false)
  | .unknown => ({ x with coverage := .unknown, thickness := 0, width := 0, wane := 0 }, true)
  | c =>
    ({ x with coverage := c, thickness := min r.thickness.toNat 191, width := min r.width.toNat 511,
              wane := min r.wane.toNat 100 },
     decide (191 < r.thickness.toNat) || decide (511 < r.width.toNat) || decide (100 < r.wane.toNat))

/-- The board with the two segments of head h written (R37). -/
def Board.fillHead (b : Board) (h : Nat) (f : HeadFrame) : Board :=
  let first := fillSegment (b.segments.getD (2 * h) Segment.opened) f.first
  let second := fillSegment (b.segments.getD (2 * h + 1) Segment.opened) f.second
  { b with
    segments := (b.segments.set (2 * h) first.1).set (2 * h + 1) second.1,
    flags := { b.flags with clamped := b.flags.clamped || first.2 || second.2 } }

/-- A head frame taken whole on link h (R35, R36, R37). -/
def State.takeHeadFrame (s : State) (h : Nat) (f : HeadFrame) : State :=
  let a := s.scan
  if f.head.toNat ≠ h then s.setScan (a.countBad h)
  else
    match a.matchTag f.tag with
    | .board lug =>
      (s.setScan { a with headsReceived := a.headsReceived.set h true }).updateBoard lug fun b => b.fillHead h f
    | .noBoard => s.setScan a.disagree
    | .late => s.setScan a.countLate

/-! ### Defect frames and context records -/

/-- A context record sent, carrying the run or its absence (R41, R42, R47). -/
def Assembler.sendContext (a : Assembler) (run : Option Run) : Assembler :=
  { a with contextsSent := a.contextsSent ++
      [{ context := a.context, species := run.elim 0 Run.species, thickness := run.elim 0 Run.thickness }] }

/-- A run open or run close at the Scan Assembler (R42). -/
def Assembler.changeRun (a : Assembler) (run : Option Run) : Assembler :=
  if a.vision = .absent then a
  else
    let a := Assembler.sendContext { a with context := a.context + 1 } run
    { a with vision := .contextPending, misses := 0 }

/-- A defect frame in CONTEXT_PENDING or ONLINE (R43, R44). -/
def Assembler.checkDefect (a : Assembler) (f : DefectFrame) : Assembler :=
  let m := a.matchTag f.tag
  let a := match m with
    | .board _ => { a with answered := true }
    | _ => a
  if f.context ≠ a.context then { a with stale := satInc a.stale }
  else
    let a := { a with vision := .online }
    match m with
    | .board _ => { a with held := some f }
    | .noBoard => a.disagree
    | .late => a.countLate

/-- The head number field of a defect frame (section 12.9). -/
def visionCode : Byte := 0x0B#8

/-- A defect frame taken whole (R43, R47). -/
def Assembler.takeDefect (a : Assembler) (run : Option Run) (f : DefectFrame) : Assembler :=
  if f.head ≠ visionCode then a.countBad 11
  else
    match a.vision with
    | .absent => { a with unexpected := satInc a.unexpected }
    | .offline => Assembler.sendContext { a with vision := .contextPending } run
    | _ => a.checkDefect f

/-! ### The close of a window (R38 to R40, R45, R46) -/

/-- The heads not received, each with its place. -/
def Assembler.missing (a : Assembler) : List Nat := (List.range 11).filter fun h => !a.headsReceived.getD h false

/-- Step 1: the missing heads (R38). -/
def State.settleHeads (s : State) (lug : Lug) : State :=
  let missing := s.scan.missing
  if missing.isEmpty then s
  else
    (s.setScan { s.scan with headMisses := missing.foldl bumpAt s.scan.headMisses }).updateBoard lug fun b =>
      { b with flags := { b.flags with headMissing := true } }

/-- A defect entry: score in bits 6 to 0, split in bit 7 (section 12.9). -/
def defectScore (e : Byte) : Nat := e.toNat % 128

/-- A held frame used at window close: CLAMPED when a score above 15 is clamped, whatever the frame's status (R44). -/
def Board.noteScores (b : Board) (entries : List Byte) : Board :=
  { b with flags := { b.flags with clamped := b.flags.clamped ||
      ((entries.take 22).any fun e => decide (15 < defectScore e)) } }

/-- The defects copied from a frame with status OK, scores clamped to 15 (R44, R45). -/
def Board.copyDefects (b : Board) (entries : List Byte) : Board :=
  { b with
    segments := b.segments.zipIdx.map fun p =>
      let e := entries.getD p.2 0
      { p.1 with defect := some (min (defectScore e) 15), split := some (decide (128 ≤ e.toNat)) } }

/-- The board graded from geometry alone (R45). -/
def Board.markGeoOnly (b : Board) : Board := { b with flags := { b.flags with geoOnly := true } }

/-- Step 2, first part: the defects from the held frame (R44, R45). A FAULT frame is used too: its scores may set CLAMPED, and
none is copied. -/
def State.settleDefects (s : State) (lug : Lug) : State :=
  match s.scan.held with
  | some f =>
    if f.status = 0 then s.updateBoard lug fun b => (b.noteScores f.entries).copyDefects f.entries
    else
      ((s.setScan { s.scan with visionFaults := satInc s.scan.visionFaults }).updateBoard lug fun b =>
        (b.noteScores f.entries).markGeoOnly).notifyFault (.vision lug f.context)
  | none => s.updateBoard lug Board.markGeoOnly

/-- Step 2, second part: the vision miss (R46). -/
def State.settleMiss (s : State) (lug : Lug) : State :=
  let a := s.scan
  if a.vision = .contextPending ∨ a.vision = .online then
    if a.answered then s.setScan { a with misses := 0 }
    else if 3 ≤ a.misses + 1 then
      (s.setScan { a with visionMisses := satInc a.visionMisses, misses := 0, vision := .offline }).notifyFault
        (.visionOffline lug)
    else s.setScan { a with visionMisses := satInc a.visionMisses, misses := a.misses + 1 }
  else s

/-- A coverage that makes a board scanned (R39). -/
def Coverage.scanned : Coverage → Bool
  | .full => true
  | .part => true
  | _ => false

/-- A coverage that widens the extent (R39). -/
def Coverage.wood : Coverage → Bool
  | .none => false
  | _ => true

/-- The extent of a board's segments (R39): absent when no segment is FULL or PARTIAL. -/
def extentOf (segments : List Segment) : Option (Nat × Nat) :=
  if segments.any fun x => x.coverage.scanned then
    match segments.findIdx? (fun x => x.coverage.wood), segments.reverse.findIdx? (fun x => x.coverage.wood) with
    | some a, some r => some (a, segments.length - 1 - r)
    | _, _ => none
  else none

/-- Step 3: the extent, or NO_SCAN (R39). -/
def Board.takeExtent (b : Board) : Board :=
  match extentOf b.segments with
  | some e => { b with extent := some e }
  | none => { b with flags := { b.flags with noScan := true } }

/-- The close of a board's window (R40). -/
def State.closeWindow (s : State) (lug : Lug) : State :=
  let s := s.settleHeads lug
  let s := (s.settleDefects lug).settleMiss lug
  let s := s.updateBoard lug Board.takeExtent
  let s := s.attribute lug
  let s := s.updateBoard lug fun b => { b with state := .solving }
  s.requestSolve lug .first

/-- The new lug taken as the current one (R33). -/
def Assembler.takeLug (a : Assembler) (lug : Lug) (present : Bool) : Assembler :=
  { a with currentLug := some lug, boardPresent := present, cleared := false,
           headsReceived := List.replicate 11 false, held := none, answered := false }

/-- The Scan Assembler's part of a boundary: the old window closes, the new lug becomes current (R33, R34). -/
def State.scanBoundary (s : State) (presence : Bool) : State :=
  let s' := match s.scan.currentLug with
    | some lug => if s.scan.boardPresent then s.closeWindow lug else s
    | none => s
  s'.setScan (s'.scan.takeLug s'.chain.lug presence)

end Sys2Proof.Machine
end

