-- ==== Sys2Proof/Machine/ChainOps.lean ====
section
/-! DEFINITION. The Chain Interface (chapter 1): pulses (R1, R2), the lug boundary and its receivers (R3), the sync eye
(R4 to R6), line stop and resume (R12, R13, R137, R138). -/

namespace Sys2Proof.Machine

/-! ### The lug boundary -/

/-- The lug counters at a gated boundary (R7, R9): HOLD frame lifetimes and straggler timers. -/
def State.countersBoundary (s : State) (chainRun : Bool) : State :=
  if chainRun then
    (s.setFrames s.frames.countDown).setLogs
      { s.logs with queue := s.logs.queue.map fun l => { l with timer := l.timer.countDown } }
  else s

/-- Every expiry that is pending, serviced by its owner: the straggler timers, oldest log first (R24), then the HOLD frames,
oldest first (R81). -/
def State.serviceExpiries (s : State) : State :=
  let s := ((s.logs.queue.filter fun l => l.timer.expiryPending).map Log.id).foldl State.serviceStraggler s
  (s.frames.holds.filter fun h => h.timer.expiryPending).foldl (fun s h => s.removeHold h .expired 0) s

/-- A boundary at the Tracking Table and the Scan Assembler, in either order (R3, R58), both in one step: the key that R58 and
R120 speak of, between a station mark and the close of the same boundary, never comes between the two (DESIGN CHOICE, log
entry 4). -/
def State.boardsBoundary (s : State) (x : BoundarySample) : State :=
  match x.order with
  | .trackingFirst => (s.trackBoundary x.presence).scanBoundary x.presence
  | .assemblerFirst => (s.scanBoundary x.presence).trackBoundary x.presence

/-- The boundary handed to its receivers, with both samples (R3): the lug counters after the others, or before them with
their expiries serviced at once (R24; DESIGN CHOICE, log entry 4). -/
def State.handBoundary (s : State) (x : BoundarySample) : State :=
  if x.expiriesFirst then ((s.countersBoundary x.chainRun).serviceExpiries).boardsBoundary x
  else (s.boardsBoundary x).countersBoundary x.chainRun

/-- A lug boundary: the lug number increments, the presence eye and chain-run are sampled, the receivers are handed the
boundary (R3). -/
def State.lugBoundary (s : State) (x : BoundarySample) : State :=
  let s := s.setPins { s.pins with presence := x.presence, chainRun := x.chainRun }
  (s.setChain { s.chain with lug := s.chain.lug + 1 }).handBoundary x

/-- The marks of a boundary taken from the encoder (R2, R3): phase 0, the eye-miss count, the boundary-since-eye mark. -/
def Chain.encoderBoundary (c : Chain) : Chain :=
  { c with phase := 0, boundaryMark := true,
           eyeMisses := if c.boundaryMark && c.aligned then satInc c.eyeMisses else c.eyeMisses }

/-- A forward pulse (R2). -/
def State.forwardPulse (s : State) (x : BoundarySample) : State :=
  let c := s.chain
  if 0 < c.backlash then s.setChain { c with backlash := c.backlash - 1 }
  else if c.phase + 1 < c.config.pulses then s.setChain { c with phase := c.phase + 1 }
  else (s.setChain c.encoderBoundary).lugBoundary x

/-- A reverse pulse (R2). -/
def Chain.reversePulse (c : Chain) : Chain := { c with backlash := satInc c.backlash }

/-- The place of an encoder pair in the sequence 00, 01, 11, 10 of section 1.2, which does not say which way is forward: the
model takes that order as forward (DESIGN CHOICE, log entry 35). -/
def encoderPlace (a b : Bool) : Nat :=
  match a, b with
  | false, false => 0
  | false, true => 1
  | true, true => 2
  | true, false => 3

/-- The class of a change of the encoder pair (R1). -/
inductive PulseClass where
  | forward
  | reverse
  | error
  | unchanged
deriving DecidableEq, Repr

/-- A change classed by the pair's previous and new values (R1). -/
def pulseClass (a b a' b' : Bool) : PulseClass :=
  match (encoderPlace a' b' + 4 - encoderPlace a b) % 4 with
  | 0 => .unchanged
  | 1 => .forward
  | 2 => .error
  | _ => .reverse

/-- A change of the encoder pair, counted (R1). -/
def State.countPulse (s : State) (cls : PulseClass) (x : BoundarySample) : State :=
  match cls with
  | .forward => s.forwardPulse x
  | .reverse => s.setChain s.chain.reversePulse
  | .error => s.setChain { s.chain with encoderErrors := satInc s.chain.encoderErrors }
  | .unchanged => s

/-! ### The sync eye -/

/-- The deviation of an eye pulse: the phase for a late eye, P less the phase for an early one (R5). -/
def Chain.deviation (c : Chain) : Nat := if c.boundaryMark then c.phase else c.config.pulses - c.phase

/-- A slip dealt with (R6): counted, reported with the lug number after the pulse's action, and flagged in every board
record held. -/
def State.slip (s : State) (deviation : Nat) (early : Bool) : State :=
  let s := (s.setChain { s.chain with slips := satInc s.chain.slips }).notifyFault
    (.lugSlip s.chain.lug deviation early)
  s.setTrack { s.track with boards := s.track.boards.map fun b => { b with flags := { b.flags with slipped := true } } }

/-- A sync eye pulse (R4, R5). -/
def State.syncEye (s : State) (x : BoundarySample) : State :=
  let c := s.chain
  let s' := s.setChain { c with phase := 0, boundaryMark := false, aligned := true }
  if c.aligned then
    let s' := if c.boundaryMark then s' else s'.lugBoundary x
    if c.config.tolerance < c.deviation then s'.slip c.deviation (!c.boundaryMark) else s'
  else s'

/-! ### Line stop and resume -/

/-- An assertion of the line-stop input (R12). -/
def State.stopLine (s : State) : State :=
  if s.chain.line = .running then
    let s := (s.setChain { s.chain with line := .stopped }).notify (.lineStopped s.chain.lug)
    (s.setTrimmer (s.trimmer.stop s.chain.lug)).requestCheckpoint
  else s

/-- LINE RESUME (R13, R138). -/
def State.resumeLine (s : State) : State × ReplyCode :=
  match s.chain.line with
  | .running => (s, .accepted)
  | .stopped =>
    if s.pins.lineStop then (s, .stopped)
    else
      ((s.setChain { s.chain with line := .running }).setTrimmer (s.trimmer.present true), .accepted)

/-- An accepted SET LINE (R10, R11). -/
def Chain.configure (c : Chain) (v : LineConfig) : Chain :=
  if v.pulses = c.config.pulses then { c with config := v.inForce }
  else { c with config := v.inForce, phase := 0, boundaryMark := false, aligned := false }

/-! ### ACK and the PULSED handshake (R133, R134) -/

/-- The presented board is accepted: the port's part, then the Tracking Table's (R135). -/
def State.acceptPresented (s : State) : State :=
  match s.trimmer.presented with
  | some x => (s.setTrimmer s.trimmer.accept).acceptBoard x.lug
  | none => s

/-- A rise of ACK in INTERLOCKED mode (R133). -/
def State.ackRises (s : State) : State :=
  match s.trimmer.mode, s.trimmer.phase with
  | .interlocked, .on => s.acceptPresented
  | .interlocked, .ready =>
    (s.setTrimmer { s.trimmer with handshakeFaults := satInc s.trimmer.handshakeFaults, phase := .recovering }).notifyFault
      (.handshake s.chain.lug s.trimmer.lastTag)
  | _, _ => s

/-- A fall of ACK in INTERLOCKED mode (R133). -/
def State.ackFalls (s : State) : State :=
  match s.trimmer.mode, s.trimmer.phase with
  | .interlocked, .recovering => s.setTrimmer (s.trimmer.recover s.running)
  | _, _ => s

/-- The end of a pulse that ran its full width (R134). -/
def State.pulseEnds (s : State) : State :=
  match s.trimmer.mode, s.trimmer.phase with
  | .pulsed, .on => s.acceptPresented
  | _, _ => s

/-- The end of the gap after a pulse (R134). -/
def State.pulseGapEnds (s : State) : State :=
  match s.trimmer.mode, s.trimmer.phase with
  | .pulsed, .recovering => s.setTrimmer (s.trimmer.recover s.running)
  | _, _ => s

end Sys2Proof.Machine
end

