-- ==== Sys2Proof/Machine/ChainCommands.lean ====
section
/-! DEFINITION. The commands of the chain: encoder, sync eye, lug counter expiries, line-stop input (chapters 1, 2 and 5). -/

namespace Sys2Proof.Machine

/-- ENCODER_PULSE (R1): the encoder pair changes to `a`, `b`. The pair's level is followed at all times; the change
is counted once STARTING has ended (R14), with the levels a boundary samples. -/
def execEncoderPulse (a b : Bool) (sample : BoundarySample) (s : State) : Host.Outcome State Fault Refusal :=
  .next ((s.setPins { s.pins with encA := a, encB := b }).whenReady fun t =>
    t.countPulse (pulseClass s.pins.encA s.pins.encB a b) sample)

/-- SYNC_EYE_PULSE (R4, R5, R6). -/
def execSyncEyePulse (sample : BoundarySample) (s : State) : Host.Outcome State Fault Refusal :=
  .next (s.whenReady fun s => s.syncEye sample)

/-- HOLD_EXPIRY (R81): the expiry handed to the Frame Chain for the HOLD frame of a code is serviced. -/
def execHoldExpiry (code : Nat) (s : State) : Host.Outcome State Fault Refusal :=
  .next (s.whenReady fun s => s.expireHold code)

/-- STRAGGLER_EXPIRY (R24): the expiry handed to the Log Scaler for an open log is serviced. -/
def execStragglerExpiry (logId : Nat) (s : State) : Host.Outcome State Fault Refusal :=
  .next (s.whenReady fun s => s.serviceStraggler logId)

/-- LINE_STOP (R12): the line-stop input is asserted; in STARTING only its level counts (R14). -/
def execLineStop (s : State) : Host.Outcome State Fault Refusal :=
  .next ((s.setPins { s.pins with lineStop := true }).whenReady State.stopLine)

/-- LINE_STOP_RELEASE (R12): the input's level, and no state, changes. -/
def execLineStopRelease (s : State) : Host.Outcome State Fault Refusal :=
  .next (s.setPins { s.pins with lineStop := false })

end Sys2Proof.Machine
end

