-- ==== Sys2Proof/Machine/Requests.lean ====
section
/-! DEFINITION. The requests of the line computer: the path of a good frame to its reply (R180), and what each of the 27
requests does and answers under its owner's rule. -/

namespace Sys2Proof.Machine

/-! ### The path of a good frame (R180) -/

/-- What a request's owner answers: the state after it, the reply code, the data. -/
abbrev Answer := State × ReplyCode × List Byte

/-- The request refused: nothing changes. -/
def State.refuse (s : State) (code : ReplyCode) : Answer := (s, code, [])

/-- The request accepted with ACCEPTED and no data. -/
def State.accept (s : State) : Answer := (s, .accepted, [])

/-- The request accepted with ACCEPTED and the data as they stand; nothing changes. -/
def State.acceptWith (s : State) (data : List Byte) : Answer := (s, .accepted, data)

/-- A reply formed and placed (R180). -/
def State.reply (s : State) (type tag : Byte) (code : ReplyCode) (data : List Byte) : State :=
  s.setLink (s.link.putReply { type := type, tag := tag, code := code, data := data })

/-- The start byte of a frame that comes whole: a partial frame it finds is broken, and the framer stands in HUNT when
the frame is complete (R178). -/
def Link.frameIn (l : Link) : Link :=
  { l with framer := Framer.hunt,
           brokenFrames := if l.framer.receiving then satInc l.brokenFrames else l.brokenFrames }

/-- A good frame outside STARTING with room for its reply: the body length, then the owner (R180 steps 4 and 5). -/
def State.serve (s : State) (type tag : Byte) (lengthOk : Bool) (owner : State → Answer) : State :=
  if lengthOk then
    let a := owner s
    a.1.reply type tag a.2.1 a.2.2
  else s.reply type tag .badLength []

/-- A good frame of a request type, dealt with in the order of R180. -/
def State.takeFrame (s : State) (type tag : Byte) (lengthOk : Bool) (owner : State → Answer) : State :=
  if Config.replyCapacity ≤ s.link.replies.length then
    s.setLink { s.link with replyOverruns := satInc s.link.replyOverruns }
  else if s.power = .ready then s.serve type tag lengthOk owner
  else s.reply type tag .notReady []

/-- A request command: its frame comes whole at a powered processor, and the transmitter goes on. -/
def State.request (s : State) (type tag : Byte) (lengthOk : Bool) (owner : State → Answer) : State :=
  s.whenPowered fun s => (s.setLink s.link.frameIn).takeFrame type tag lengthOk owner

/-- A body of the one length its layout gives (R191). -/
def exactly (n : Nat) (body : List Byte) : Bool := decide (body.length = n)

/-! ### Chain, rules and settings (R10, R75, R184, R185, R13, R67) -/

/-- STATUS (R184). -/
def State.doStatus (s : State) : Answer := s.acceptWith (statusData s)

/-- SET LINE (R10, R11). -/
def State.doSetLine (body : List Byte) (s : State) : Answer :=
  let v := setLineFields body
  if v.inRange then
    if s.track.boards.isEmpty then (s.setChain (s.chain.configure v)).accept else s.refuse .busy
  else s.refuse .outOfRange

/-- SET BASE RULES (R75, R71). -/
def State.doSetBase (body : List Byte) (s : State) : Answer :=
  if s.solver.run.isSome then s.refuse .runOpen
  else
    (s.setFrames (s.frames.setBase (baseFields body)),
      if clampBase (baseFields body) = baseFields body then .accepted else .acceptedClamped, [])

/-- The settings image of the values in force (R185). -/
def State.settingsImage (s : State) : Settings :=
  { line := s.chain.config, base := s.frames.base, retriggerA := s.stationA.retrigger,
    retriggerB := s.stationB.retrigger, mode := s.trimmer.mode, width := s.trimmer.width, bins := s.sorter.bins,
    defaultBin := s.sorter.defaultBin, interval := s.tally.interval }

/-- The values an accepted SAVE SETTINGS sets (R185, R124, R140). -/
def State.applySettings (s : State) (f : SaveFields) : State :=
  let s := s.setStationA { s.stationA with retrigger := f.retriggerA }
  let s := s.setStationB { s.stationB with retrigger := f.retriggerB }
  let s := s.setTrimmer (s.trimmer.configure f.mode f.width s.pins.ack)
  s.setTally { s.tally with interval := f.interval, accepted := 0 }

/-- SAVE SETTINGS: the four refusals in their order, then the effect (R185). -/
def State.doSaveSettings (body : List Byte) (s : State) : Answer :=
  if s.store.warned then s.refuse .notReady
  else
    match saveFields body with
    | none => s.refuse .outOfRange
    | some f =>
      if (f.mode ≠ s.trimmer.mode ∨ f.width ≠ s.trimmer.width) ∧ s.trimmer.occupied = true then s.refuse .busy
      else if s.store.queueFull then s.refuse .busy
      else
        let s := s.applySettings f
        (s.queueStoreOp (.settings s.settingsImage)).requestCheckpoint.accept

/-- LINE RESUME (R13). -/
def State.doLineResume (s : State) : Answer := (s.resumeLine.1, s.resumeLine.2, [])

/-- CLEAR LINE (R67). -/
def State.doClearLine (s : State) : Answer := s.clearLine.accept

/-! ### Runs (R93 to R95) -/

/-- A run change handed to the Scan Assembler and the Watch Unit (R42, R176). -/
def State.tellRunChange (s : State) : State :=
  (s.setScan (s.scan.changeRun s.solver.run)).setWatch s.watch.disarmLocal

/-- A run close with every effect but the reply (R95, R76). -/
def State.closeRun (s : State) : State := (s.setSolver { s.solver with run := none }).closeFrames.tellRunChange

/-- CLOSE RUN (R95). -/
def State.doCloseRun (s : State) : Answer := if s.solver.run.isSome then s.closeRun.accept else s.refuse .noRun

/-- An OPEN RUN that passed its checks (R94). -/
def State.openRun (s : State) (f : OpenFields) : State :=
  let s := if s.solver.run.isSome then s.closeRun else s
  let values := if f.keepPrices then s.solver.values else List.replicate Config.valueEntries ValueEntry.empty
  ((s.setSolver { s.solver with run := some f.run, values := values }).openFrames f.entries).tellRunChange

/-- OPEN RUN (R93, R94, R77). -/
def State.doOpenRun (body : List Byte) (s : State) : Answer :=
  match openFields body with
  | none => s.refuse .outOfRange
  | some f => (s.openRun f, if clampEntries f.entries = f.entries then .accepted else .acceptedClamped, [])

/-! ### Prices (R106 to R108) -/

/-- The value table with the entries of a range changed, each by its place in the range. -/
def changeRange (values : List ValueEntry) (first count : Nat) (f : Nat → ValueEntry → ValueEntry) :
    List ValueEntry :=
  values.zipIdx.map fun p => if first ≤ p.2 ∧ p.2 < first + count then f (p.2 - first) p.1 else p.1

/-- A value stored in an entry (R106). -/
def ValueEntry.price (e : ValueEntry) (v : Nat) : ValueEntry :=
  { state := if e.state = .absent then .present else e.state, value := v }

/-- An entry at PRICE WITHDRAW (R107). -/
def ValueEntry.withdraw (e : ValueEntry) : ValueEntry :=
  if e.state = .present then { e with state := .withdrawn } else e

/-- An entry at PRICE RESTORE (R107). -/
def ValueEntry.restore (e : ValueEntry) : ValueEntry :=
  if e.state = .withdrawn then { e with state := .present } else e

/-- The value table changed over a range (R105). -/
def State.changePrices (s : State) (first count : Nat) (f : Nat → ValueEntry → ValueEntry) : State :=
  s.setSolver { s.solver with values := changeRange s.solver.values first count f }

/-- A PRICE request over the range its body names, refused OUT_OF_RANGE when it names none (R106). -/
def State.priceRequest (s : State) (body : List Byte) (f : Nat → ValueEntry → ValueEntry) : Answer :=
  match priceRange body with
  | none => s.refuse .outOfRange
  | some (first, count) => (s.changePrices first count f).accept

/-- PRICE SET (R106). -/
def State.doPriceSet (body : List Byte) (s : State) : Answer :=
  s.priceRequest body fun k e => e.price ((priceValues body).getD k 0)

/-- PRICE WITHDRAW (R107). -/
def State.doPriceWithdraw (body : List Byte) (s : State) : Answer := s.priceRequest body fun _ e => e.withdraw

/-- PRICE RESTORE (R107). -/
def State.doPriceRestore (body : List Byte) (s : State) : Answer := s.priceRequest body fun _ e => e.restore

/-- PRICE READ (R108): the entries of the range as a list, its count first (R190). -/
def State.doPriceRead (body : List Byte) (s : State) : Answer :=
  match priceRange body with
  | none => s.refuse .outOfRange
  | some (first, count) => s.acceptWith (encList 1 encValue ((s.solver.values.drop first).take count))

/-- FRAME READ (R86). -/
def State.doFrameRead (s : State) : Answer := s.acceptWith (encFrames s.frames)

/-! ### Orders (R150, R151) -/

/-- A record with its target and action replaced and its state settled (R150). -/
def Order.retarget (o : Order) (f : OrderFields) : Order :=
  { o with target := f.target, action := f.action,
           state := if f.target ≤ o.filled.value then .filled else .isOpen }

/-- A new order record (R150). -/
def OrderFields.fresh (f : OrderFields) : Order :=
  { key := f.key, target := f.target, filled := Counter.zero, state := .isOpen, action := f.action }

/-- ORDER SET with its fields in range (R150). -/
def State.setOrder (s : State) (f : OrderFields) : Answer :=
  match s.tally.order? f.key with
  | some o =>
    let o' := o.retarget f
    let s' := s.setTally (s.tally.putOrder o')
    (if o.state = .isOpen ∧ o'.state = .filled then s'.notify (o'.filledNotice none s.tally.period) else s').accept
  | none =>
    if s.tally.orders.length < Config.orderRecords then
      (s.setTally { s.tally with orders := s.tally.orders ++ [f.fresh] }).accept
    else s.refuse .tableFull

/-- ORDER SET (R150). -/
def State.doOrderSet (body : List Byte) (s : State) : Answer :=
  match orderFields body with
  | none => s.refuse .outOfRange
  | some f => s.setOrder f

/-- ORDER CANCEL (R151). -/
def State.doOrderCancel (body : List Byte) (s : State) : Answer :=
  match cancelKey body with
  | none => s.refuse .outOfRange
  | some key =>
    if (s.tally.order? key).isSome then
      (s.setTally { s.tally with orders := s.tally.orders.filter fun o => o.key ≠ key }).accept
    else s.refuse .notFound

/-- ORDER READ (R151). -/
def State.doOrderRead (s : State) : Answer := s.acceptWith (encList 1 encOrder s.tally.orders)

/-! ### The bin table (R144) -/

/-- The bin of a key set: its entry replaced in its place, or a new one at the young end. -/
def Sorter.setBin (x : Sorter) (key : ProductKey) (bin : Nat) : Sorter :=
  if (x.binOf key).isSome then { x with bins := x.bins.map fun e => if e.1 = key then (key, bin) else e }
  else { x with bins := x.bins ++ [(key, bin)] }

/-- A new entry would find the table full. -/
def Sorter.binsFull (x : Sorter) (key : ProductKey) : Bool :=
  (x.binOf key).isNone && decide (Config.binEntries ≤ x.bins.length)

/-- BIN SET (R144). -/
def State.doBinSet (body : List Byte) (s : State) : Answer :=
  match binSetFields body with
  | none => s.refuse .outOfRange
  | some (.default bin) => (s.setSorter { s.sorter with defaultBin := bin }).accept
  | some (.key key bin) =>
    if s.sorter.binsFull key then s.refuse .tableFull else (s.setSorter (s.sorter.setBin key bin)).accept

/-- BIN CLEAR (R144). -/
def State.doBinClear (body : List Byte) (s : State) : Answer :=
  match binClearFields body with
  | none => s.refuse .outOfRange
  | some .default => (s.setSorter { s.sorter with defaultBin := Config.defaultBin }).accept
  | some (.key key) =>
    if (s.sorter.binOf key).isSome then
      (s.setSorter { s.sorter with bins := s.sorter.bins.filter fun e => e.1 ≠ key }).accept
    else s.refuse .notFound

/-- BIN READ (R144). -/
def State.doBinRead (s : State) : Answer := s.acceptWith (encBinTable s.sorter)

/-! ### Logs (R21, R22) -/

/-- LOG START (R21). -/
def State.doLogStart (s : State) : Answer := (s.startLog.1, s.startLog.2, [])

/-- LOG CUT (R22). -/
def State.doLogCut (body : List Byte) (s : State) : Answer :=
  match logCutFields body with
  | none => s.refuse .outOfRange
  | some (id, count, straggler) => ((s.cutLog id count straggler).1, (s.cutLog id count straggler).2, [])

/-! ### The tally (R156 to R158) -/

/-- TALLY READ (R157). -/
def State.doTallyRead (body : List Byte) (s : State) : Answer :=
  match tallyPart body 0 with
  | none => s.refuse .outOfRange
  | some part => s.acceptWith (encTally s.tally part)

/-- TALLY CLOSE (R156). -/
def State.doTallyClose (s : State) : Answer :=
  if s.store.warned then s.refuse .notReady
  else if s.store.queueFull then s.refuse .busy
  else s.closeTally.accept

/-- The period record a queued operation carries. -/
def StoreOp.periodRecord? : StoreOp → Option PeriodRecord
  | .period r => some r
  | _ => none

/-- The period record a store record holds. -/
def StoreRecord.periodRecord? (r : StoreRecord) : Option PeriodRecord :=
  match r.body with
  | .period p => some p
  | _ => none

/-- The kept records of a period number: valid and among the 32 newest valid period records (R158, R165). -/
def Store.keptRecords (x : Store) (period : Nat) : List StoreRecord :=
  (validRecords x.blocks).filter fun r =>
    keptPeriod x.blocks r && decide ((r.periodRecord?.map PeriodRecord.period) = some period)

/-- The newest record of a period number: in a queued operation, else among the records kept (R158). -/
def Store.findPeriod (x : Store) (period : Nat) : Option PeriodRecord :=
  match (x.queue.filterMap StoreOp.periodRecord?).reverse.find? fun r => r.period == period with
  | some r => some r
  | none => (newestOf (x.keptRecords period)).bind StoreRecord.periodRecord?

/-- PERIOD READ (R158). -/
def State.doPeriodRead (body : List Byte) (s : State) : Answer :=
  let period := fieldAt body 0 2
  if s.store.warned then s.refuse .notReady
  else
    match (if period = 0 then none else tallyPart body 2) with
    | none => s.refuse .outOfRange
    | some part =>
      if period = s.tally.period then s.refuse .notFound
      else
        match s.store.findPeriod period with
        | some r => s.acceptWith (encPeriod r part)
        | none => s.refuse .notFound

/-! ### Watches (R170, R171, R175) -/

/-- WATCH SET (R170). -/
def State.doWatchSet (body : List Byte) (s : State) : Answer :=
  match watchFields body with
  | none => s.refuse .outOfRange
  | some (slot, program) => (s.setWatch (s.watch.program slot program)).accept

/-- WATCH CLEAR (R171). -/
def State.doWatchClear (body : List Byte) (s : State) : Answer :=
  if byteAt body 0 ≤ 3 then (s.setWatch (s.watch.clearSlot (byteAt body 0))).accept else s.refuse .outOfRange

/-- CAPTURE READ (R175). -/
def State.doCaptureRead (s : State) : Answer :=
  match s.watch.captures with
  | [] => s.refuse .notFound
  | c :: rest => (s.setWatch { s.watch with captures := rest }).acceptWith (encCapture c ++ bytesOf 1 rest.length)

/-! ### A good frame by its type (section 12.4, R191) -/

/-- The path of a request type: whether the body's length is allowed, and the owner; absent for another type. -/
def requestOf (type : Byte) (body : List Byte) : Option (Bool × (State → Answer)) :=
  match type.toNat with
  | 0x01 => some (exactly 0 body, State.doStatus)
  | 0x02 => some (exactly 10 body, State.doSetLine body)
  | 0x03 => some (exactly 27 body, State.doSetBase body)
  | 0x04 => some (exactly 5 body, State.doSaveSettings body)
  | 0x05 => some (openLength body, State.doOpenRun body)
  | 0x06 => some (exactly 0 body, State.doCloseRun)
  | 0x07 => some (priceSetLength body, State.doPriceSet body)
  | 0x08 => some (exactly 2 body, State.doPriceWithdraw body)
  | 0x09 => some (exactly 2 body, State.doPriceRestore body)
  | 0x0A => some (exactly 2 body, State.doPriceRead body)
  | 0x0B => some (exactly 0 body, State.doFrameRead)
  | 0x0C => some (exactly 9 body, State.doOrderSet body)
  | 0x0D => some (exactly 2 body, State.doOrderCancel body)
  | 0x0E => some (exactly 0 body, State.doOrderRead)
  | 0x0F => some (exactly 4 body, State.doBinSet body)
  | 0x10 => some (exactly 3 body, State.doBinClear body)
  | 0x11 => some (exactly 0 body, State.doBinRead)
  | 0x12 => some (exactly 0 body, State.doLogStart)
  | 0x13 => some (exactly 4 body, State.doLogCut body)
  | 0x14 => some (exactly 3 body, State.doTallyRead body)
  | 0x15 => some (exactly 0 body, State.doTallyClose)
  | 0x16 => some (exactly 5 body, State.doPeriodRead body)
  | 0x17 => some (exactly 9 body, State.doWatchSet body)
  | 0x18 => some (exactly 1 body, State.doWatchClear body)
  | 0x19 => some (exactly 0 body, State.doCaptureRead)
  | 0x1A => some (exactly 0 body, State.doLineResume)
  | 0x1B => some (exactly 0 body, State.doClearLine)
  | _ => none

/-- A good frame whose type is not a request type (R180 step 3). -/
def State.unknownFrame (s : State) (type tag : Byte) : State :=
  s.takeFrame type tag true fun s => s.refuse .unknownType

/-- A good frame that the framer has completed, by its type (R180). -/
def State.goodFrame (s : State) (type tag : Byte) (body : List Byte) : State :=
  match requestOf type body with
  | some (lengthOk, owner) => s.takeFrame type tag lengthOk owner
  | none => s.unknownFrame type tag

/-! ### Characters on the Line Link (R178, R179) -/

/-- What the framer's event brings about: a good frame is dispatched, a discarded one counted by its cause. -/
def State.framerEvent (s : State) (e : FramerEvent) : State :=
  match e with
  | .none => s
  | .good type tag body => s.goodFrame type tag body
  | .checkFail => s.setLink { s.link with checkFails := satInc s.link.checkFails }
  | .badLength => s.setLink { s.link with badLengths := satInc s.link.badLengths }
  | .broken => s.setLink { s.link with brokenFrames := satInc s.link.brokenFrames }

/-- One character on the receive line (R178). -/
def State.linkCharacter (s : State) (c : RxChar) : State :=
  let r := s.link.framer.receive c
  ((s.setLink { s.link with framer := r.1 }).framerEvent r.2).takeUp

/-- A break on the receive line (R179). -/
def State.linkBreak (s : State) : State :=
  let r := s.link.framer.lineBreak
  (s.setLink { s.link with framer := r.1 }).framerEvent r.2

end Sys2Proof.Machine
end

