-- ==== Sys2Proof/Machine/LinkCommands.lean ====
section
/-! DEFINITION. The other commands of the Line Link (R178 to R181). -/

namespace Sys2Proof.Machine

/-- UNKNOWN_TYPE (R180 step 3): a good frame whose type is not a request type, whatever type it carries (DESIGN CHOICE, log
entry 30). -/
def execUnknownType (type tag : Byte) (_body : List Byte) (s : State) : Host.Outcome State Fault Refusal :=
  .next (s.whenPowered fun s => (s.setLink s.link.frameIn).unknownFrame type tag)

/-- FRAME_DISCARDED (R178): the characters of a frame that the framer discards. -/
def execFrameDiscarded (received : List RxChar) (s : State) : Host.Outcome State Fault Refusal :=
  .next (s.whenPowered fun s => received.foldl State.linkCharacter s)

/-- LINE_LINK_BREAK (R179): characters on the receive line, then a break. -/
def execLineLinkBreak (received : List RxChar) (s : State) : Host.Outcome State Fault Refusal :=
  .next (s.whenPowered fun s => (received.foldl State.linkCharacter s).linkBreak)

/-- FRAME_SENT (R181): the last byte of the frame being sent has gone. -/
def execFrameSent (s : State) : Host.Outcome State Fault Refusal :=
  .next (s.whenPowered fun s => s.setLink s.link.frameDone)

end Sys2Proof.Machine
end

