-- ==== Sys2Proof/Machine/PortCommands.lean ====
section
/-! DEFINITION. The commands of the Trim Solver and of the two ports (R91, R133, R134, R142). -/

namespace Sys2Proof.Machine

/-- STROBE_END (R142). -/
def execStrobeEnd (s : State) : Host.Outcome State Fault Refusal :=
  .next (s.whenReady fun s => s.setSorter s.sorter.strobeEnd)

/-- STROBE_GAP_END (R142): a waiting strobe begins at the pulse width then in force (R140). -/
def execStrobeGapEnd (s : State) : Host.Outcome State Fault Refusal :=
  .next (s.whenReady fun s => s.setSorter (s.sorter.gapEnd s.trimmer.width))

/-- SOLVE_COMPLETE (R91). -/
def execSolveComplete (s : State) : Host.Outcome State Fault Refusal := .next (s.whenReady State.completeSolve)

/-- ACK_RISE (R133): the ACK input rises; in STARTING only its level counts (R141). -/
def execAckRise (s : State) : Host.Outcome State Fault Refusal :=
  .next ((s.setPins { s.pins with ack := true }).whenReady State.ackRises)

/-- ACK_FALL (R133): the ACK input falls. -/
def execAckFall (s : State) : Host.Outcome State Fault Refusal :=
  .next ((s.setPins { s.pins with ack := false }).whenReady State.ackFalls)

/-- PULSE_END (R134). -/
def execPulseEnd (s : State) : Host.Outcome State Fault Refusal := .next (s.whenReady State.pulseEnds)

/-- PULSE_GAP_END (R134). -/
def execPulseGapEnd (s : State) : Host.Outcome State Fault Refusal := .next (s.whenReady State.pulseGapEnds)

end Sys2Proof.Machine
end

