-- ==== Sys2Proof/Machine/RequestCommands.lean ====
section
/-! DEFINITION. The 27 requests of the line computer (section 12.4), each with its type, its body's length and its owner (R191). -/

namespace Sys2Proof.Machine

/-- STATUS (R184), with the level of chain-run that the reply carries (R15). -/
def execStatus (tag : Byte) (body : List Byte) (chainRun : Bool) (s : State) : Host.Outcome State Fault Refusal :=
  .next ((s.setPins { s.pins with chainRun := chainRun }).request 0x01 tag (exactly 0 body) State.doStatus)

/-- SET_LINE (R10, R11). -/
def execSetLine (tag : Byte) (body : List Byte) (s : State) : Host.Outcome State Fault Refusal :=
  .next (s.request 0x02 tag (exactly 10 body) (State.doSetLine body))

/-- SET_BASE_RULES (R75). -/
def execSetBaseRules (tag : Byte) (body : List Byte) (s : State) : Host.Outcome State Fault Refusal :=
  .next (s.request 0x03 tag (exactly 27 body) (State.doSetBase body))

/-- SAVE_SETTINGS (R185). -/
def execSaveSettings (tag : Byte) (body : List Byte) (s : State) : Host.Outcome State Fault Refusal :=
  .next (s.request 0x04 tag (exactly 5 body) (State.doSaveSettings body))

/-- OPEN_RUN (R93, R94). -/
def execOpenRun (tag : Byte) (body : List Byte) (s : State) : Host.Outcome State Fault Refusal :=
  .next (s.request 0x05 tag (openLength body) (State.doOpenRun body))

/-- CLOSE_RUN (R95). -/
def execCloseRun (tag : Byte) (body : List Byte) (s : State) : Host.Outcome State Fault Refusal :=
  .next (s.request 0x06 tag (exactly 0 body) State.doCloseRun)

/-- PRICE_SET (R106). -/
def execPriceSet (tag : Byte) (body : List Byte) (s : State) : Host.Outcome State Fault Refusal :=
  .next (s.request 0x07 tag (priceSetLength body) (State.doPriceSet body))

/-- PRICE_WITHDRAW (R107). -/
def execPriceWithdraw (tag : Byte) (body : List Byte) (s : State) : Host.Outcome State Fault Refusal :=
  .next (s.request 0x08 tag (exactly 2 body) (State.doPriceWithdraw body))

/-- PRICE_RESTORE (R107). -/
def execPriceRestore (tag : Byte) (body : List Byte) (s : State) : Host.Outcome State Fault Refusal :=
  .next (s.request 0x09 tag (exactly 2 body) (State.doPriceRestore body))

/-- PRICE_READ (R108). -/
def execPriceRead (tag : Byte) (body : List Byte) (s : State) : Host.Outcome State Fault Refusal :=
  .next (s.request 0x0A tag (exactly 2 body) (State.doPriceRead body))

/-- FRAME_READ (R86). -/
def execFrameRead (tag : Byte) (body : List Byte) (s : State) : Host.Outcome State Fault Refusal :=
  .next (s.request 0x0B tag (exactly 0 body) State.doFrameRead)

/-- ORDER_SET (R150). -/
def execOrderSet (tag : Byte) (body : List Byte) (s : State) : Host.Outcome State Fault Refusal :=
  .next (s.request 0x0C tag (exactly 9 body) (State.doOrderSet body))

/-- ORDER_CANCEL (R151). -/
def execOrderCancel (tag : Byte) (body : List Byte) (s : State) : Host.Outcome State Fault Refusal :=
  .next (s.request 0x0D tag (exactly 2 body) (State.doOrderCancel body))

/-- ORDER_READ (R151). -/
def execOrderRead (tag : Byte) (body : List Byte) (s : State) : Host.Outcome State Fault Refusal :=
  .next (s.request 0x0E tag (exactly 0 body) State.doOrderRead)

/-- BIN_SET (R144). -/
def execBinSet (tag : Byte) (body : List Byte) (s : State) : Host.Outcome State Fault Refusal :=
  .next (s.request 0x0F tag (exactly 4 body) (State.doBinSet body))

/-- BIN_CLEAR (R144). -/
def execBinClear (tag : Byte) (body : List Byte) (s : State) : Host.Outcome State Fault Refusal :=
  .next (s.request 0x10 tag (exactly 3 body) (State.doBinClear body))

/-- BIN_READ (R144). -/
def execBinRead (tag : Byte) (body : List Byte) (s : State) : Host.Outcome State Fault Refusal :=
  .next (s.request 0x11 tag (exactly 0 body) State.doBinRead)

/-- LOG_START (R21). -/
def execLogStart (tag : Byte) (body : List Byte) (s : State) : Host.Outcome State Fault Refusal :=
  .next (s.request 0x12 tag (exactly 0 body) State.doLogStart)

/-- LOG_CUT (R22). -/
def execLogCut (tag : Byte) (body : List Byte) (s : State) : Host.Outcome State Fault Refusal :=
  .next (s.request 0x13 tag (exactly 4 body) (State.doLogCut body))

/-- TALLY_READ (R157). -/
def execTallyRead (tag : Byte) (body : List Byte) (s : State) : Host.Outcome State Fault Refusal :=
  .next (s.request 0x14 tag (exactly 3 body) (State.doTallyRead body))

/-- TALLY_CLOSE (R156). -/
def execTallyClose (tag : Byte) (body : List Byte) (s : State) : Host.Outcome State Fault Refusal :=
  .next (s.request 0x15 tag (exactly 0 body) State.doTallyClose)

/-- PERIOD_READ (R158). -/
def execPeriodRead (tag : Byte) (body : List Byte) (s : State) : Host.Outcome State Fault Refusal :=
  .next (s.request 0x16 tag (exactly 5 body) (State.doPeriodRead body))

/-- WATCH_SET (R170). -/
def execWatchSet (tag : Byte) (body : List Byte) (s : State) : Host.Outcome State Fault Refusal :=
  .next (s.request 0x17 tag (exactly 9 body) (State.doWatchSet body))

/-- WATCH_CLEAR (R171). -/
def execWatchClear (tag : Byte) (body : List Byte) (s : State) : Host.Outcome State Fault Refusal :=
  .next (s.request 0x18 tag (exactly 1 body) (State.doWatchClear body))

/-- CAPTURE_READ (R175). -/
def execCaptureRead (tag : Byte) (body : List Byte) (s : State) : Host.Outcome State Fault Refusal :=
  .next (s.request 0x19 tag (exactly 0 body) State.doCaptureRead)

/-- LINE_RESUME (R13). -/
def execLineResume (tag : Byte) (body : List Byte) (s : State) : Host.Outcome State Fault Refusal :=
  .next (s.request 0x1A tag (exactly 0 body) State.doLineResume)

/-- CLEAR_LINE (R67). -/
def execClearLine (tag : Byte) (body : List Byte) (s : State) : Host.Outcome State Fault Refusal :=
  .next (s.request 0x1B tag (exactly 0 body) State.doClearLine)

end Sys2Proof.Machine
end

