-- ==== Sys2Proof/Machine/Scanners.lean ====
section
/-! DEFINITION. The thirteen scanner links (R189): a record taken whole reaches its block; a record discarded or broken off
is counted. -/

namespace Sys2Proof.Machine

/-- What the receiver of a scanner link holds: the bytes after the sync byte, or nothing while it hunts. -/
def Link.scannerRx (l : Link) (link : ScannerLink) : Option (List Byte) := l.scanners.getD (scannerIndex link) none

/-- The receiver of a scanner link changed. -/
def Link.setScanner (l : Link) (link : ScannerLink) (rx : Option (List Byte)) : Link :=
  { l with scanners := l.scanners.set (scannerIndex link) rx }

/-- A record of a link discarded: its check-fail count (R189). -/
def Link.countScannerFail (l : Link) (link : ScannerLink) : Link :=
  { l with scannerFails := bumpAt l.scannerFails (scannerIndex link) }

/-- A record's effect in its block, which discards what reaches it in STARTING (R16, R35, R43, R189). -/
def State.scannerEffect (s : State) (f : State → State) : State := if s.power = .ready then f s else s

/-- A record taken whole on a scanner link: the link hunts again, and the record has its effect. -/
def State.takeScanner (s : State) (link : ScannerLink) (f : State → State) : State :=
  s.whenPowered fun s => (s.setLink (s.link.setScanner link none)).scannerEffect f

/-- A defect frame at the Scan Assembler (R43). -/
def State.takeDefectFrame (s : State) (f : DefectFrame) : State := s.setScan (s.scan.takeDefect s.solver.run f)

/-- The effect of a complete record by its link, from the bytes between sync and check (section 12.9). -/
def State.scannerRecord (s : State) (link : ScannerLink) (content : List Byte) : State :=
  match link with
  | .head h => s.takeHeadFrame h.val (headFrameOf content)
  | .vision => s.takeDefectFrame (defectFrameOf content)
  | .logScan => s.takeLogScan ((diametersOf content).map BitVec.toNat)

/-- What a receiver's event brings about. -/
def State.scannerEvent (s : State) (link : ScannerLink) (e : ScannerEvent) : State :=
  match e with
  | .none => s
  | .record content => s.scannerEffect fun s => s.scannerRecord link content
  | .fail => s.setLink (s.link.countScannerFail link)

/-- One character on a scanner link (R189). -/
def State.scannerCharacter (link : ScannerLink) (s : State) (c : RxChar) : State :=
  let r := scannerReceive link (s.link.scannerRx link) c
  ((s.setLink (s.link.setScanner link r.1)).scannerEvent link r.2).takeUp

/-- Characters on a scanner link, in the order received. -/
def State.scannerCharacters (s : State) (link : ScannerLink) (received : List RxChar) : State :=
  received.foldl (State.scannerCharacter link) s

/-- A break on a scanner link (R189). -/
def State.scannerLineBreak (s : State) (link : ScannerLink) : State :=
  let r := scannerBreak (s.link.scannerRx link)
  (s.setLink (s.link.setScanner link r.1)).scannerEvent link r.2

end Sys2Proof.Machine
end

