-- ==== Sys2Proof/Machine/ScannerCommands.lean ====
section
/-! DEFINITION. The commands of the scanner links (R16, R35, R43, R189). -/

namespace Sys2Proof.Machine

/-- LOG_SCAN_RECORD (R16 to R20): the diameters of a record taken whole, butt to top. -/
def execLogScanRecord (diameters : List Half) (s : State) : Host.Outcome State Fault Refusal :=
  .next (s.takeScanner .logScan fun s => s.takeLogScan (diameters.map BitVec.toNat))

/-- HEAD_FRAME (R35 to R37): a frame taken whole on a head link. -/
def execHeadFrame (link : Fin 11) (frame : HeadFrame) (s : State) : Host.Outcome State Fault Refusal :=
  .next (s.takeScanner (.head link) fun s => s.takeHeadFrame link.val frame)

/-- DEFECT_FRAME (R43, R44, R47): a frame taken whole on the vision link. -/
def execDefectFrame (frame : DefectFrame) (s : State) : Host.Outcome State Fault Refusal :=
  .next (s.takeScanner .vision fun s => s.takeDefectFrame frame)

/-- SCANNER_LINK_BREAK (R189): characters of a record, then a break of two character times. -/
def execScannerLinkBreak (link : ScannerLink) (received : List RxChar) (s : State) : Host.Outcome State Fault Refusal :=
  .next (s.whenPowered fun s => (s.scannerCharacters link received).scannerLineBreak link)

/-- SCANNER_RECORD_DISCARDED (R189): the characters of a record that its check byte or a framing error discards. -/
def execScannerRecordDiscarded (link : ScannerLink) (received : List RxChar) (s : State) : Host.Outcome State Fault Refusal :=
  .next (s.whenPowered fun s => s.scannerCharacters link received)

end Sys2Proof.Machine
end

