-- ==== Sys2Proof/Machine/StartUp.lean ====
section
/-! DEFINITION. Start and end of the processor's time: the restore of the Tally Store (R168), POWER ON, RESET, the end of
STARTING (R186, R187), the loss of power, and the power-fail warning (R167). -/

namespace Sys2Proof.Machine

/-! ### The restore, step by step (R168) -/

/-- The highest erase count read from the readable headers (R168); 0 when none is readable, of which R168 says nothing (DESIGN
CHOICE, log entry 57). -/
def highestReadable (blocks : List Block) : Nat :=
  ((blocks.filter Block.headerOk).map Block.eraseCount).foldl max 0

/-- Step 1: a block with an unreadable header is erased, takes the highest erase count read, and becomes FREE with role
JOURNAL. The block table is built anew: no block has its state of before. That this erase does not fail is the model's choice
(DESIGN CHOICE, log entry 50). -/
def readHeaders (blocks : List Block) : List Block :=
  let most := highestReadable blocks
  blocks.map fun b =>
    if b.headerOk then { b with state := .free }
    else { headerOk := true, eraseCount := most, role := .journal, records := [], state := .free }

/-- The highest sequence number among all records, torn ones included; 0 when there is none. -/
def highestSeq (records : List StoreRecord) : Nat := (records.map fun r => r.seq.toNat).foldl max 0

/-- Step 2: the next sequence number (R160). -/
def nextSeqOf (blocks : List Block) : BitVec 32 := BitVec.ofNat 32 (highestSeq (blocks.flatMap Block.records) + 1)

/-- A block holds the valid settings record of a sequence number. -/
def Block.holdsSettings (b : Block) (seq : BitVec 32) : Bool :=
  b.records.any fun r => r.valid && r.isSettings && r.seq == seq

/-- Step 3: the block of the newest valid settings record becomes STATIC; any other block of role STATIC is erased to
FREE, by an erase that does not fail (DESIGN CHOICE, log entry 50). -/
def settleStatic (blocks : List Block) : List Block :=
  let newest := (newestSettings blocks).map StoreRecord.seq
  blocks.map fun b =>
    if newest.elim false b.holdsSettings then { b with state := .static }
    else if b.role = .static then b.erased
    else b

/-- A journal block that holds records. -/
def Block.journalHeld (b : Block) : Bool := b.role == .journal && b.state != .static && !b.records.isEmpty

/-- Step 4: the journal block of the highest sequence number becomes ACTIVE when it has room for the largest record; the
other journal blocks that hold records become FULL, and those that hold none are FREE. A torn record counts as a record held
(DESIGN CHOICE, log entry 45). -/
def settleJournal (blocks : List Block) : List Block :=
  let top := highestSeq ((blocks.filter Block.journalHeld).flatMap Block.records)
  blocks.map fun b =>
    if b.state = .static then b
    else if b.journalHeld then
      if (b.records.any fun r => r.seq.toNat == top) && b.hasRoom largestSpace then { b with state := .active }
      else { b with state := .full }
    else { b with state := .free }

/-- A period number equals another or follows it in the wrapping order 1 to 65535 by fewer than 32,768 (R168). -/
def atOrPast (period checkpoint : Nat) : Bool := decide ((period + 65535 - checkpoint) % 65535 < 32768)

/-- Step 6: the tally, by what was found, and the restore outcome (R168). -/
def restoreTally (checkpoint : Option Checkpoint) (period : Option PeriodRecord) (interval : Nat) :
    Tally × RestoreOutcome :=
  match checkpoint, period with
  | some c, some p =>
    if atOrPast p.period c.period then
      ({ Tally.initial interval with period := nextPeriod p.period, orders := c.orders }, .period)
    else ({ Tally.initial interval with period := c.period, live := c.live, orders := c.orders }, .checkpoint)
  | some c, none => ({ Tally.initial interval with period := c.period, live := c.live, orders := c.orders }, .checkpoint)
  | none, some p => ({ Tally.initial interval with period := nextPeriod p.period }, .period)
  | none, none => (Tally.initial interval, .none)

/-- The checkpoint a store record holds. -/
def StoreRecord.checkpoint? (r : StoreRecord) : Option Checkpoint :=
  match r.body with
  | .checkpoint c => some c
  | _ => none

/-- The newest period record's content. -/
def StoreRecord.period? (r : StoreRecord) : Option PeriodRecord :=
  match r.body with
  | .period p => some p
  | _ => none

/-- The settings image a store record holds. -/
def StoreRecord.settings? (r : StoreRecord) : Option Settings :=
  match r.body with
  | .settings i => some i
  | _ => none

/-- The store over the blocks as steps 1 to 4 leave them. -/
def restoreStore (blocks : List Block) : Store :=
  let read := readHeaders blocks
  { Store.initial (settleJournal (settleStatic read)) with nextSeq := nextSeqOf read }

/-- Step 7: reclaim, and the relocation test when there is nothing to reclaim; the test of an erase is made as it
completes, each by a command of its own (DEDUCED, log entry 17). -/
def State.restoreReclaim (s : State) : State :=
  let x := s.store.startReclaim 0
  (s.setStore (if x.erasing.isSome then x else x.testRelocation)).settleStore

/-- Each block takes its part of a settings image (R187 step 3). -/
def State.takeSettings (s : State) (i : Settings) : State :=
  let x := (s.setChain { s.chain with config := i.line }).setFrames { s.frames with base := i.base }
  let x := (x.setStationA { s.stationA with retrigger := i.retriggerA }).setStationB
    { s.stationB with retrigger := i.retriggerB }
  let x := (x.setTrimmer { s.trimmer with mode := i.mode, width := i.width }).setSorter
    { s.sorter with bins := i.bins, defaultBin := i.defaultBin }
  x.setTally { s.tally with interval := i.interval }

/-- The restore has ended: the settings of the newest valid settings record or the built-in ones are taken, and the
vision-present input is sampled (R187 steps 3 and 4). -/
def State.endRestore (s : State) : State :=
  let saved := (newestSettings s.store.blocks).bind StoreRecord.settings?
  let s := s.takeSettings (saved.getD Settings.builtIn)
  (s.setStart { s.start with restored := true, settingsSaved := saved.isSome }).setScan
    { s.scan with vision := if s.pins.visionPresent then .contextPending else .absent }

/-- The restore ends with its reclaim: when no erase of it is left (R187 step 2, R168 step 7). -/
def State.settleRestore (s : State) : State :=
  match s.power with
  | .starting _ => if s.start.restored || s.store.erasing.isSome then s else s.endRestore
  | _ => s

/-- STARTING begins with a cause: every block at its power-on values, the tally and the block table restored, the reclaim
begun; the settings follow when the reclaim is done (R187 steps 1 to 4). The vision state is ABSENT until the vision-present
sample, as `State.endRestore` takes it (R49 gives none before it: DESIGN CHOICE, log entry 28). -/
def State.beginStarting (s : State) (cause : ResetCause) (visionPresent : Bool) : State :=
  let store := restoreStore s.store.blocks
  let tally := restoreTally ((newestCheckpoint store.blocks).bind StoreRecord.checkpoint?)
    ((newestPeriod store.blocks).bind StoreRecord.period?) Config.defaultInterval
  (State.initial (.starting cause) { s.pins with visionPresent := visionPresent }
    { restored := false, settingsSaved := false, outcome := tally.2 } Settings.builtIn false tally.1 store
    s.pending).restoreReclaim.settleRestore

/-- The processor with its working state lost (R186): outputs inactive, nothing queued, only the flash kept. The vision state is
ABSENT, which nothing reads (DESIGN CHOICE, log entry 28). -/
def State.loseWork (s : State) (power : Power) (pins : Pins) (cut : FlashCut) : State :=
  State.initial power pins { restored := false, settingsSaved := false, outcome := .none } Settings.builtIn false
    (Tally.initial Config.defaultInterval) (Store.initial (s.store.cutFlash cut)) s.pending

/-! ### The events of R186 -/

/-- Power comes up (R186); with the supply up already, nothing (DESIGN CHOICE, log entry 26). -/
def State.powerUp (s : State) (visionPresent : Bool) : State :=
  match s.power with
  | .off => s.beginStarting .powerOn visionPresent
  | _ => s

/-- The supply falls (R160, R167, R168). -/
def State.powerDown (s : State) (cut : FlashCut) : State :=
  match s.power with
  | .off => s
  | _ => s.loseWork .off s.pins cut

/-- The RESET input becomes asserted (R186). -/
def State.assertReset (s : State) (cut : FlashCut) : State :=
  let pins := { s.pins with reset := true }
  if s.powered then s.loseWork .resetHeld pins cut else s.setPins pins

/-- The RESET input is released (R186). -/
def State.releaseReset (s : State) (visionPresent : Bool) : State :=
  let s' := s.setPins { s.pins with reset := false }
  match s.power with
  | .resetHeld => s'.beginStarting .reset visionPresent
  | _ => s'

/-! ### The end of STARTING (R187) -/

/-- What the levels of the inputs decide as STARTING ends: line state (R14), handshake phase (R141), power-fail state
(R167). -/
def State.takeLevels (s : State) : State :=
  let s := s.setChain { s.chain with line := if s.pins.lineStop then .stopped else .running }
  let s := if s.trimmer.mode = .interlocked ∧ s.pins.ack = true then s.setTrimmer { s.trimmer with phase := .recovering }
    else s
  s.setStore { s.store with warned := s.pins.powerFail }

/-- The READY notice (R187). -/
def State.readyNotice (s : State) (cause : ResetCause) : Notice :=
  .ready cause s.scan.vision s.start.settingsSaved s.start.outcome s.store.conditionFull s.tally.period

/-- STARTING ends (R187): READY, LINE STOPPED, the first context record, the empty displays. -/
def State.endStarting (s : State) (cause : ResetCause) : State :=
  let s := (s.setPower .ready).takeLevels
  let s := s.notify (s.readyNotice cause)
  let s := if s.pins.lineStop then s.notify (.lineStopped s.chain.lug) else s
  let s := if s.scan.vision = .contextPending then s.setScan (s.scan.sendContext s.solver.run) else s
  ((s.refresh .a).refresh .b).takeUp

/-- The end of STARTING, which only a processor that is STARTING reaches, and only when its restore has ended. -/
def State.finishStarting (s : State) : State :=
  match s.power with
  | .starting cause => if s.start.restored then s.endStarting cause else s
  | _ => s

/-! ### The power-fail warning (R167) -/

/-- An assertion of the warning: WARNED with one checkpoint request, unless WARNED already. -/
def State.warn (s : State) : State :=
  if s.store.warned then s else (s.setStore { s.store with warned := true }).requestCheckpoint

/-- A release of the warning: the power-fail state is NORMAL. -/
def State.unwarn (s : State) : State := s.setStore { s.store with warned := false }

end Sys2Proof.Machine
end

