-- ==== Sys2Proof/Machine/StartCommands.lean ====
section
/-! DEFINITION. The commands of the supply, RESET and STARTING (R167, R186, R187). -/

namespace Sys2Proof.Machine

/-- POWER_FAIL_WARNING (R167): the warning input is asserted; in STARTING only its level counts. -/
def execPowerFailWarning (s : State) : Host.Outcome State Fault Refusal :=
  .next ((s.setPins { s.pins with powerFail := true }).whenReady State.warn)

/-- POWER_FAIL_RELEASE (R167): the warning input is released. -/
def execPowerFailRelease (s : State) : Host.Outcome State Fault Refusal :=
  .next ((s.setPins { s.pins with powerFail := false }).whenReady State.unwarn)

/-- POWER_ON (R186, R187): power comes up; the vision-present input is sampled after the restore (R41). -/
def execPowerOn (visionPresent : Bool) (s : State) : Host.Outcome State Fault Refusal :=
  .next (s.powerUp visionPresent).takeUp

/-- RESET_ASSERTION (R186): the RESET input is asserted; `cut` says what it leaves of a record or an erase in
flight. -/
def execResetAssertion (cut : FlashCut) (s : State) : Host.Outcome State Fault Refusal := .next (s.assertReset cut)

/-- RESET_RELEASE (R186, R187): the RESET input is released. -/
def execResetRelease (visionPresent : Bool) (s : State) : Host.Outcome State Fault Refusal :=
  .next (s.releaseReset visionPresent).takeUp

/-- STARTING_END (R187). -/
def execStartingEnd (s : State) : Host.Outcome State Fault Refusal := .next s.finishStarting

/-- POWER_LOSS (R160, R167): the supply falls; `cut` says what it leaves of a record or an erase in flight. -/
def execPowerLoss (cut : FlashCut) (s : State) : Host.Outcome State Fault Refusal := .next (s.powerDown cut)

end Sys2Proof.Machine
end

