-- ==== Sys2Proof/Machine/Stations.lean ====
section
/-! DEFINITION. The Station Interface (chapter 7): the taking of a record (R112, R113), the board keys and the override
record (R117 to R120), and the keys P, H, X and ? (R116, R123, R125, R126). -/

namespace Sys2Proof.Machine

/-- A reply line queued for a station (R114). -/
def State.answer (s : State) (st : StationId) (r : StationReply) : State := s.setStation st ((s.station st).putReply r)

/-- A key whose reply is queued before the displays its effect refreshes (R114): `f` gives the effect and the reply, and
the reply does not depend on the output queues (DEDUCED, log entry 8). -/
def State.answerFirst (s : State) (st : StationId) (f : State → State × StationReply) : State :=
  (f (s.answer st (f s).2)).1

/-! ### The override record (R118, R119) -/

/-- A record with no mark, owned by a station. -/
def Override.blank (st : StationId) : Override := { owner := st, grade := none, trim := none, chip := false }

/-- The record a key of the station builds on: the one it owns, else none held (R118, R119). -/
def overrideBase (held : Option Override) (st : StationId) : Override :=
  match held with
  | some o => if o.owner = st then o else Override.blank st
  | none => Override.blank st

/-- A board key. -/
inductive BoardKey where
  | gradeMark (g : Nat)
  | trimMark (p q : Nat)
  | chip
  | release
deriving DecidableEq, Repr

/-- The record a board key leaves, by the table of R118, on the record it builds on (R119). -/
def BoardKey.merge (k : BoardKey) (held : Option Override) (st : StationId) : Option Override :=
  match k with
  | .gradeMark g => some { overrideBase held st with grade := some g }
  | .trimMark p q => some { overrideBase held st with trim := some (p, q), chip := false }
  | .chip => some { overrideBase held st with trim := none, chip := true }
  | .release => none

/-- The key changes nothing: an R that finds no record (R118). -/
def BoardKey.idle (k : BoardKey) (held : Option Override) : Bool :=
  match k with
  | .release => held.isNone
  | _ => false

/-- Some segment of the trim is not FULL, on a board whose assembly has closed (R117 step 3, R120). -/
def BoardKey.lacksWood (k : BoardKey) (b : Board) : Bool :=
  match k with
  | .trimMark p q => b.state != .assembling && !(candidateOf b.segments p q).allFull
  | _ => false

/-- The board admits an override write from a station (R59). -/
def Board.admits (b : Board) (st : StationId) : Bool :=
  (b.state == .assembling || b.state == .solving || b.state == .solved) && b.window st == .isOpen

/-- The reply of a board key by the checks of R117, in their order. -/
def State.boardKeyReply (s : State) (st : StationId) (k : BoardKey) : StationReply :=
  match (s.station st).selection with
  | none => if (s.station st).last.isSome then .noTooLate else .noBoard
  | some lug =>
    match s.board? lug with
    | none => .noTooLate
    | some b => if b.admits st then if k.lacksWood b then .noWood else .ok else .noTooLate

/-- The message to the station whose record another's key has replaced (R119). -/
def State.tellSuperseded (s : State) (held : Option Override) (st : StationId) (lug : Lug) : State :=
  match held with
  | some o =>
    if o.owner = st then s
    else s.setStation o.owner ((s.station o.owner).putMessage (.superseded lug st))
  | none => s

/-- The write of a board key that was answered OK: the record, the message, the re-solve, the displays (R117 step 4,
R118, R119, R122). -/
def State.writeOverride (s : State) (st : StationId) (k : BoardKey) (b : Board) : State :=
  let s := s.updateBoard b.lug fun x => { x with override := k.merge b.override st }
  let s := s.tellSuperseded b.override st b.lug
  let s := if k.idle b.override then s else s.requestResolve b.lug .override
  s.refreshShowing b.lug

/-- A board key (R117). -/
def State.boardKey (s : State) (st : StationId) (k : BoardKey) : State :=
  let r := s.boardKeyReply st k
  let s := s.answer st r
  match r, ((s.station st).selection).bind s.board? with
  | .ok, some b => s.writeOverride st k b
  | _, _ => s

/-! ### P, H, X and ? -/

/-- The next record older than a board whose window at the station is OPEN (R116). -/
def State.olderOpen (s : State) (st : StationId) (lug : Lug) : Option Lug :=
  (((s.track.boards.takeWhile fun b => b.lug ≠ lug).filter fun b => b.window st == .isOpen).getLast?).map Board.lug

/-- The key P (R116). -/
def State.selectOlder (s : State) (st : StationId) : State × StationReply :=
  match ((s.station st).selection).bind (s.olderOpen st) with
  | some lug => (s.select st (some lug) none, .ok)
  | none => (s, .noBoard)

/-- The key ? (R126). -/
def State.refreshKey (s : State) (st : StationId) : State × StationReply := (s.refresh st, .ok)

/-- A record that passed the checks of R113, acted upon. -/
def State.actKey (s : State) (st : StationId) (k : Key) : State :=
  match k with
  | .gradeMark g => s.boardKey st (.gradeMark g)
  | .trimMark p q => s.boardKey st (.trimMark p q)
  | .chip => s.boardKey st .chip
  | .release => s.boardKey st .release
  | .older => s.answerFirst st fun s => s.selectOlder st
  | .hold g n => s.answerFirst st fun s => s.pushHold st g (clampLifetime n)
  | .cancel => s.answerFirst st fun s => s.cancelHold st
  | .refresh => s.answerFirst st fun s => s.refreshKey st

/-! ### The taking of a record (R112) -/

/-- The receive buffer emptied and the discard mark cleared (R112). -/
def Station.emptied (x : Station) : Station := { x with buffer := [], discard := false }

/-- A station with its output queue full of reply and message lines (R112). -/
def Station.outputFull (x : Station) : Bool := decide (Config.stationLines ≤ x.lineCount)

/-- A record answered NO SYNTAX (R113). -/
def State.syntaxRecord (s : State) (st : StationId) : State :=
  (s.setStation st { s.station st with syntaxCount := satInc (s.station st).syntaxCount }).answer st .noSyntax

/-- A record, not empty, ended outside STARTING (R112): discarded unanswered, or taken; `act` is its effect. -/
def State.takeRecord (s : State) (st : StationId) (act : State → State) : State :=
  let x := (s.station st).emptied
  if x.outputFull then s.setStation st { x with overruns := satInc x.overruns }
  else act (s.setStation st { x with records := satInc x.records })

/-- A key's record arriving whole (R112, R113): it is acted upon when it stands alone in the receive buffer, the discard
mark is clear and its fields are in range, and is answered NO SYNTAX otherwise (DEDUCED, log entry 10). -/
def State.stationKey (s : State) (st : StationId) (k : Key) : State :=
  match s.power with
  | .ready =>
    (s.takeRecord st fun t =>
      if (s.station st).buffer = [] ∧ (s.station st).discard = false ∧ k.inRange = true then t.actKey st k
      else t.syntaxRecord st).takeUp
  | .starting _ => s.setStation st (s.station st).emptied
  | _ => s

/-- A CR has ended the record in a station's receive buffer (R112). -/
def State.endRecord (s : State) (st : StationId) : State :=
  let x := s.station st
  if s.power ≠ .ready ∨ (x.buffer = [] ∧ x.discard = false) then s.setStation st x.emptied
  else
    s.takeRecord st fun t =>
      match (if x.discard then none else parseRecord x.buffer) with
      | some k => t.actKey st k
      | none => t.syntaxRecord st

/-- One character from a pendant (R112). -/
def State.stationCharacter (st : StationId) (s : State) (c : RxChar) : State :=
  let r := (s.station st).receive c
  let s := s.setStation st r.1
  if r.2 then (s.endRecord st).takeUp else s

/-- Characters from a pendant, in the order received (R112). -/
def State.stationCharacters (s : State) (st : StationId) (received : List RxChar) : State :=
  if s.powered then received.foldl (State.stationCharacter st) s else s

end Sys2Proof.Machine
end

