-- ==== Sys2Proof/Machine/StationCommands.lean ====
section
/-! DEFINITION. The commands of the two pendants (chapter 7): a record of each key, a record that is answered NO SYNTAX, a line sent. -/

namespace Sys2Proof.Machine

/-- GRADE_MARK_KEY, `G g` (R117, R118). -/
def execGradeMarkKey (station : StationId) (g : Nat) (s : State) : Host.Outcome State Fault Refusal :=
  .next (s.stationKey station (.gradeMark g))

/-- TRIM_MARK_KEY, `T p q` (R117, R118). -/
def execTrimMarkKey (station : StationId) (p q : Nat) (s : State) : Host.Outcome State Fault Refusal :=
  .next (s.stationKey station (.trimMark p q))

/-- CHIP_KEY, `C` (R117, R118). -/
def execChipKey (station : StationId) (s : State) : Host.Outcome State Fault Refusal :=
  .next (s.stationKey station .chip)

/-- RELEASE_KEY, `R` (R117, R118). -/
def execReleaseKey (station : StationId) (s : State) : Host.Outcome State Fault Refusal :=
  .next (s.stationKey station .release)

/-- SELECT_OLDER_KEY, `P` (R116). -/
def execSelectOlderKey (station : StationId) (s : State) : Host.Outcome State Fault Refusal :=
  .next (s.stationKey station .older)

/-- HOLD_KEY, `H g n` (R123). -/
def execHoldKey (station : StationId) (g n : Nat) (s : State) : Host.Outcome State Fault Refusal :=
  .next (s.stationKey station (.hold g n))

/-- CANCEL_HOLD_KEY, `X` (R125). -/
def execCancelHoldKey (station : StationId) (s : State) : Host.Outcome State Fault Refusal :=
  .next (s.stationKey station .cancel)

/-- REFRESH_KEY, `?` (R126). -/
def execRefreshKey (station : StationId) (s : State) : Host.Outcome State Fault Refusal :=
  .next (s.stationKey station .refresh)

/-- STATION_SYNTAX_RECORD (R112, R113): the characters of a record, its CR among them. -/
def execStationSyntaxRecord (station : StationId) (received : List RxChar) (s : State) : Host.Outcome State Fault Refusal :=
  .next (s.stationCharacters station received)

/-- STATION_LINE_SENT (R114): the last character of a line has been sent, and the next line begins. -/
def execStationLineSent (station : StationId) (s : State) : Host.Outcome State Fault Refusal :=
  .next (s.whenPowered fun s => s.setStation station (s.station station).lineDone)

end Sys2Proof.Machine
end

