-- ==== Sys2Proof/Machine/StoreCommands.lean ====
section
/-! DEFINITION. The completions of the Tally Store's operations and erases (R161, R164 to R166). A completion that names no operation in flight has no effect. -/

namespace Sys2Proof.Machine

/-- CHECKPOINT_WRITE_DONE (R161, R163). -/
def execCheckpointWriteDone (s : State) : Host.Outcome State Fault Refusal :=
  .next (s.whenPowered State.checkpointDone)

/-- PERIOD_WRITE_DONE (R161, R164). -/
def execPeriodWriteDone (s : State) : Host.Outcome State Fault Refusal := .next (s.whenPowered State.periodDone)

/-- SETTINGS_WRITE_DONE (R164). -/
def execSettingsWriteDone (s : State) : Host.Outcome State Fault Refusal := .next (s.whenPowered State.settingsDone)

/-- RELOCATE_STATIC_DONE (R166). -/
def execRelocateStaticDone (s : State) : Host.Outcome State Fault Refusal :=
  .next (s.whenPowered State.relocateDone)

/-- RECLAIM_ERASE_DONE (R165): the erase of a reclaimable block completes; `failed` when the flash reports it so. In STARTING
the restore ends with its last erase (R168, R187). -/
def execReclaimEraseDone (failed : Bool) (s : State) : Host.Outcome State Fault Refusal :=
  .next (s.whenPowered fun s => (s.eraseDone failed).settleRestore)

end Sys2Proof.Machine
end

