-- ==== Sys2Proof/Machine/Dispatch.lean ====
section
/-! DEFINITION. The meaning of each command: one arm for each row of spec/opcode_table.json. -/

namespace Sys2Proof.Machine

def exec (i : Instr) (s : State) : Host.Outcome State Fault Refusal :=
  match i with
  | .encoderPulse a b sample => Sys2Proof.Machine.execEncoderPulse a b sample s
  | .syncEyePulse sample => Sys2Proof.Machine.execSyncEyePulse sample s
  | .holdExpiry code => Sys2Proof.Machine.execHoldExpiry code s
  | .stragglerExpiry logId => Sys2Proof.Machine.execStragglerExpiry logId s
  | .lineStop => Sys2Proof.Machine.execLineStop s
  | .lineStopRelease => Sys2Proof.Machine.execLineStopRelease s
  | .powerFailWarning => Sys2Proof.Machine.execPowerFailWarning s
  | .powerFailRelease => Sys2Proof.Machine.execPowerFailRelease s
  | .powerOn visionPresent => Sys2Proof.Machine.execPowerOn visionPresent s
  | .resetAssertion cut => Sys2Proof.Machine.execResetAssertion cut s
  | .resetRelease visionPresent => Sys2Proof.Machine.execResetRelease visionPresent s
  | .startingEnd => Sys2Proof.Machine.execStartingEnd s
  | .logScanRecord diameters => Sys2Proof.Machine.execLogScanRecord diameters s
  | .headFrame link frame => Sys2Proof.Machine.execHeadFrame link frame s
  | .defectFrame frame => Sys2Proof.Machine.execDefectFrame frame s
  | .scannerLinkBreak link received => Sys2Proof.Machine.execScannerLinkBreak link received s
  | .strobeEnd => Sys2Proof.Machine.execStrobeEnd s
  | .strobeGapEnd => Sys2Proof.Machine.execStrobeGapEnd s
  | .solveComplete => Sys2Proof.Machine.execSolveComplete s
  | .ackRise => Sys2Proof.Machine.execAckRise s
  | .ackFall => Sys2Proof.Machine.execAckFall s
  | .pulseEnd => Sys2Proof.Machine.execPulseEnd s
  | .pulseGapEnd => Sys2Proof.Machine.execPulseGapEnd s
  | .gradeMarkKey station g => Sys2Proof.Machine.execGradeMarkKey station g s
  | .trimMarkKey station p q => Sys2Proof.Machine.execTrimMarkKey station p q s
  | .chipKey station => Sys2Proof.Machine.execChipKey station s
  | .releaseKey station => Sys2Proof.Machine.execReleaseKey station s
  | .selectOlderKey station => Sys2Proof.Machine.execSelectOlderKey station s
  | .holdKey station g n => Sys2Proof.Machine.execHoldKey station g n s
  | .cancelHoldKey station => Sys2Proof.Machine.execCancelHoldKey station s
  | .refreshKey station => Sys2Proof.Machine.execRefreshKey station s
  | .stationSyntaxRecord station received => Sys2Proof.Machine.execStationSyntaxRecord station received s
  | .stationLineSent station => Sys2Proof.Machine.execStationLineSent station s
  | .status tag body chainRun => Sys2Proof.Machine.execStatus tag body chainRun s
  | .setLine tag body => Sys2Proof.Machine.execSetLine tag body s
  | .setBaseRules tag body => Sys2Proof.Machine.execSetBaseRules tag body s
  | .saveSettings tag body => Sys2Proof.Machine.execSaveSettings tag body s
  | .openRun tag body => Sys2Proof.Machine.execOpenRun tag body s
  | .closeRun tag body => Sys2Proof.Machine.execCloseRun tag body s
  | .priceSet tag body => Sys2Proof.Machine.execPriceSet tag body s
  | .priceWithdraw tag body => Sys2Proof.Machine.execPriceWithdraw tag body s
  | .priceRestore tag body => Sys2Proof.Machine.execPriceRestore tag body s
  | .priceRead tag body => Sys2Proof.Machine.execPriceRead tag body s
  | .frameRead tag body => Sys2Proof.Machine.execFrameRead tag body s
  | .orderSet tag body => Sys2Proof.Machine.execOrderSet tag body s
  | .orderCancel tag body => Sys2Proof.Machine.execOrderCancel tag body s
  | .orderRead tag body => Sys2Proof.Machine.execOrderRead tag body s
  | .binSet tag body => Sys2Proof.Machine.execBinSet tag body s
  | .binClear tag body => Sys2Proof.Machine.execBinClear tag body s
  | .binRead tag body => Sys2Proof.Machine.execBinRead tag body s
  | .logStart tag body => Sys2Proof.Machine.execLogStart tag body s
  | .logCut tag body => Sys2Proof.Machine.execLogCut tag body s
  | .tallyRead tag body => Sys2Proof.Machine.execTallyRead tag body s
  | .tallyClose tag body => Sys2Proof.Machine.execTallyClose tag body s
  | .periodRead tag body => Sys2Proof.Machine.execPeriodRead tag body s
  | .watchSet tag body => Sys2Proof.Machine.execWatchSet tag body s
  | .watchClear tag body => Sys2Proof.Machine.execWatchClear tag body s
  | .captureRead tag body => Sys2Proof.Machine.execCaptureRead tag body s
  | .lineResume tag body => Sys2Proof.Machine.execLineResume tag body s
  | .clearLine tag body => Sys2Proof.Machine.execClearLine tag body s
  | .unknownType type tag body => Sys2Proof.Machine.execUnknownType type tag body s
  | .frameDiscarded received => Sys2Proof.Machine.execFrameDiscarded received s
  | .lineLinkBreak received => Sys2Proof.Machine.execLineLinkBreak received s
  | .frameSent => Sys2Proof.Machine.execFrameSent s
  | .checkpointWriteDone => Sys2Proof.Machine.execCheckpointWriteDone s
  | .periodWriteDone => Sys2Proof.Machine.execPeriodWriteDone s
  | .settingsWriteDone => Sys2Proof.Machine.execSettingsWriteDone s
  | .relocateStaticDone => Sys2Proof.Machine.execRelocateStaticDone s
  | .reclaimEraseDone failed => Sys2Proof.Machine.execReclaimEraseDone failed s
  | .powerLoss cut => Sys2Proof.Machine.execPowerLoss cut s
  | .scannerRecordDiscarded link received => Sys2Proof.Machine.execScannerRecordDiscarded link received s

end Sys2Proof.Machine
end

