-- ==== Sys2Proof/Safety.lean ====
section
/-! DEFINITION. The words the statements use: the parts of the state and what it means that a command leaves them
alone, a processor that takes events, and the conditions that every command keeps. -/

namespace Sys2Proof.Machine

/-! ### Frames -/

/-- The parts of the state, one for each field of `State`. -/
inductive Part where
  | power
  | pins
  | start
  | chain
  | logs
  | scan
  | track
  | frames
  | solver
  | stationA
  | stationB
  | trimmer
  | sorter
  | tally
  | store
  | watch
  | link
  | pending
deriving DecidableEq, Repr

/-- Two states agree on a part. -/
def State.agrees (s t : State) : Part → Prop
  | .power => t.power = s.power
  | .pins => t.pins = s.pins
  | .start => t.start = s.start
  | .chain => t.chain = s.chain
  | .logs => t.logs = s.logs
  | .scan => t.scan = s.scan
  | .track => t.track = s.track
  | .frames => t.frames = s.frames
  | .solver => t.solver = s.solver
  | .stationA => t.stationA = s.stationA
  | .stationB => t.stationB = s.stationB
  | .trimmer => t.trimmer = s.trimmer
  | .sorter => t.sorter = s.sorter
  | .tally => t.tally = s.tally
  | .store => t.store = s.store
  | .watch => t.watch = s.watch
  | .link => t.link = s.link
  | .pending => t.pending = s.pending

/-- The frame of a change from `s` to `t`: every part outside the list is unchanged. -/
def State.sameBut (s t : State) (ps : List Part) : Prop := ∀ p, p ∉ ps → s.agrees t p

/-! ### A processor that takes events -/

/-- Each sender that has something to send is sending it, as at the end of every event. -/
def State.Settled (s : State) : Prop := s.takeUp = s

/-- STARTING has ended and the senders are settled: the processor takes every kind of event. -/
def State.Attentive (s : State) : Prop := s.power = .ready ∧ s.Settled

/-- A request that comes now is answered by its owner: the reply queue has room (R180). -/
def State.CanAnswer (s : State) : Prop := s.Attentive ∧ s.link.replies.length < Config.replyCapacity

/-- The Line Link after a frame has come whole and its reply was placed (R178, R180, R181). -/
def Link.answered (l : Link) (type tag : Byte) (code : ReplyCode) (data : List Byte) : Link :=
  (l.frameIn.putReply { type := type, tag := tag, code := code, data := data }).takeUp

/-- The changes of the encoder pair, old A and B then new A and B, that are forward pulses (section 1.2). -/
def forwardChanges : List (Bool × Bool × Bool × Bool) :=
  [(false, false, false, true), (false, true, true, true), (true, true, true, false), (true, false, false, false)]

/-- The changes of the encoder pair that are reverse pulses (section 1.2). -/
def reverseChanges : List (Bool × Bool × Bool × Bool) :=
  [(false, true, false, false), (true, true, false, true), (true, false, true, true), (false, false, true, false)]

/-! ### A lug boundary, event by event -/

/-- The events of a board with the offsets at which they are raised, in the order of the table of R57. -/
def LineConfig.events (c : LineConfig) : List (Nat × (State → Lug → State)) :=
  [(c.markA, fun s => s.markEvent .a), (c.markB, fun s => s.markEvent .b),
   (min (c.markA + c.window) c.commit, fun s => s.windowEndEvent .a),
   (min (c.markB + c.window) c.commit, fun s => s.windowEndEvent .b),
   (c.commit, State.commitEvent), (c.deadline, State.deadlineEvent), (c.sort, State.sortEvent)]

/-- A board's events at the boundary of the lug number in force: those whose offset it has just reached (R57). -/
def State.raiseEvents (s : State) (lug : Lug) : State :=
  s.chain.config.events.foldl (fun t e => if (s.chain.lug - lug).toNat = e.1 then e.2 t lug else t) s

/-- A boundary at the Tracking Table: a record for wood (R51), then every board's events, oldest board first (R57). -/
def State.tableAt (s : State) (wood : Bool) : State :=
  let opened := if wood then [Board.opened s.chain.lug (s.solver.run.map Run.number)] else []
  let s := s.setTrack { s.track with boards := s.track.boards ++ opened }
  (s.track.boards.map Board.lug).foldl State.raiseEvents s

/-- A boundary at the Scan Assembler: the window of the current lug's board closes, and the new lug is the current one (R33,
R34). -/
def State.windowAt (s : State) (wood : Bool) : State :=
  let t := match s.scan.currentLug with
    | some lug => if s.scan.boardPresent then s.closeWindow lug else s
    | none => s
  t.setScan { t.scan with
    currentLug := some t.chain.lug, boardPresent := wood, cleared := false, headsReceived := List.replicate 11 false,
    held := none, answered := false }

/-- One count of a lug counter (R9): a RUNNING one counts down, and at 0 it is IDLE with its expiry pending. -/
def LugCounter.tick (c : LugCounter) : LugCounter :=
  if c.running = false then c
  else if 1 < c.remaining then { c with remaining := c.remaining - 1 }
  else { c with remaining := 0, running := false, expiryPending := true }

/-- A boundary at the lug counters, gated by chain-run (R7): the HOLD counters and the straggler timers count once. -/
def State.countersAt (s : State) (chainRun : Bool) : State :=
  if chainRun then
    (s.setFrames { s.frames with holds := s.frames.holds.map fun h => { h with timer := h.timer.tick } }).setLogs
      { s.logs with queue := s.logs.queue.map fun l => { l with timer := l.timer.tick } }
  else s

/-- A lug boundary with its samples (R3): the next lug number, then the receivers, in the order that the command gives
(log entry 4). -/
def State.boundaryAt (s : State) (x : BoundarySample) : State :=
  let boards := fun s : State => match x.order with
    | .trackingFirst => (s.tableAt x.presence).windowAt x.presence
    | .assemblerFirst => (s.windowAt x.presence).tableAt x.presence
  let s := (s.setPins { s.pins with presence := x.presence, chainRun := x.chainRun }).setChain
    { s.chain with lug := s.chain.lug + 1 }
  if x.expiriesFirst then boards (s.countersAt x.chainRun).serviceExpiries else (boards s).countersAt x.chainRun

/-! ### What a solve may choose from -/

/-- The segments that a trim between saws p and q keeps, as the solve grades them. -/
def SolveInput.kept (i : SolveInput) (p q : Nat) : List Segment := ((gradeSegments i).drop (2 * p)).take (2 * q - 2 * p)

/-- Grade g qualifies for the trim (R99): no segment worse than g + 1, no more of them worse than g than the allowance in feet,
and neither end worse than g. -/
def SolveInput.Qualifies (i : SolveInput) (p q g : Nat) : Prop :=
  (∀ x ∈ i.kept p q, ∃ k, x.grade = some k ∧ k ≤ g + 1) ∧
    ((i.kept p q).filter fun x => decide (g < x.grade.getD 6)).length ≤ 2 * (q - p) * i.limits.getD (19 + g) 0 / 100 ∧
    (∃ x k, (i.kept p q).head? = some x ∧ x.grade = some k ∧ k ≤ g) ∧
    ∃ x k, (i.kept p q).getLast? = some x ∧ x.grade = some k ∧ k ≤ g

/-- Width class c of the trim under a run (R98): the largest class whose minimum the least width of the trim meets. -/
def SolveInput.Classed (i : SolveInput) (run : Run) (p q c : Nat) : Prop :=
  let width := ((i.kept p q).map Segment.width).foldl min 511
  1 ≤ c ∧ c ≤ run.classes.length ∧ (run.classes.getD (c - 1) (0, 0)).2 ≤ width ∧
    ∀ k, c < k → k ≤ run.classes.length → width < (run.classes.getD (k - 1) (0, 0)).2

/-- The raw grade of the trim (R99): the smallest grade that qualifies. -/
def SolveInput.RawGrade (i : SolveInput) (p q raw : Nat) : Prop :=
  1 ≤ raw ∧ raw ≤ 5 ∧ i.Qualifies p q raw ∧ ∀ k, 1 ≤ k → k < raw → ¬ i.Qualifies p q k

/-- A raw grade held to CEILING, the grade mark and, from geometry alone, GEOCAP (R99). -/
def SolveInput.heldGrade (i : SolveInput) (raw : Nat) : Nat :=
  max (max raw (i.limits.getD 25 1))
    (max ((i.override.bind Override.grade).getD 0) (if i.geoOnly then i.limits.getD 26 1 else 0))

/-- The trim between saws p and q is a candidate on whole wood, of piece grade g and width class c under a run (R97 to
R99). -/
def SolveInput.Graded (i : SolveInput) (run : Run) (p q g c : Nat) : Prop :=
  p + 3 ≤ q ∧ q ≤ 10 ∧ (∀ x ∈ i.kept p q, x.coverage = .full ∧ x.grade ≠ some 6) ∧ i.Classed run p q c ∧
    ∃ raw, i.RawGrade p q raw ∧ g = i.heldGrade raw

/-- The product key of such a trim (R100). -/
def Run.keyAt (run : Run) (p q g c : Nat) : ProductKey :=
  { species := run.species, thickness := run.thickness, grade := g, length := 2 * (q - p), widthClass := c }

/-- The value entry of a key that the solve took (R100, R105). -/
def SolveInput.entryAt (i : SolveInput) (key : ProductKey) : ValueEntry :=
  i.values.getD (40 * (key.grade - 1) + 5 * ((key.length - 6) / 2) + (key.widthClass - 1)) { state := .absent, value := 0 }

/-- The solve took an order record of the key, FILLED, with an action (R100, R101). -/
def SolveInput.FilledUnder (i : SolveInput) (key : ProductKey) (action : OrderAction) : Prop :=
  ∃ o, i.orders.find? (fun o => o.key = key) = some o ∧ o.state = .filled ∧ o.action = action

/-- The score of a key at its entry's value, undiscounted (R101). -/
def SolveInput.fullScore (i : SolveInput) (run : Run) (key : ProductKey) : Nat :=
  (i.entryAt key).value * run.thickness * (run.classes.getD (key.widthClass - 1) (0, 0)).1 * key.length

/-- The trim between saws p and q is eligible under a run, as a piece of grade g and width class c with a score (R97 to R101). -/
def SolveInput.Offers (i : SolveInput) (run : Run) (p q g c score : Nat) : Prop :=
  let key := run.keyAt p q g c
  i.Graded run p q g c ∧ (i.entryAt key).state = .present ∧ ¬ i.FilledUnder key .exclude ∧
    ((∀ d, ¬ i.FilledUnder key (.discount d)) → score = i.fullScore run key) ∧
    ∀ d, i.FilledUnder key (.discount d) → score = i.fullScore run key * d / 100

/-! ### Fields in bytes (R190) -/

/-- The product key that two bytes spell. -/
def wireKey (hi lo : Byte) : ProductKey :=
  { species := hi.toNat / 16, thickness := hi.toNat / 4 % 4 + 1, grade := hi.toNat % 4 * 2 + lo.toNat / 128,
    length := 6 + 2 * (lo.toNat / 16 % 8), widthClass := lo.toNat % 8 + 1 }

/-- Every field of a product key lies in its range (R144). -/
def ProductKey.Proper (k : ProductKey) : Prop :=
  k.species ≤ 15 ∧ 1 ≤ k.thickness ∧ k.thickness ≤ 4 ∧ 1 ≤ k.grade ∧ k.grade ≤ 6 ∧ 6 ≤ k.length ∧ k.length ≤ 20 ∧
    k.length % 2 = 0 ∧ 1 ≤ k.widthClass ∧ k.widthClass ≤ 5

/-- A named value in one byte: its place in the list of its chapter. -/
def namedByte {α : Type} [DecidableEq α] (values : List α) (x : α) : List Byte := bytesOf 1 (values.idxOf x)

/-- A field with its presence byte. -/
def withPresence (x : Option (List Byte)) : List Byte := x.elim [0] fun bs => 1 :: bs

/-- A set in so many bytes: bit k set for member k. -/
def setBytes (size : Nat) (marks : List Bool) : List Byte :=
  bytesOf size (marks.zipIdx.map fun m => if m.1 then 2 ^ m.2 else 0).sum

/-- A mark in one byte. -/
def markByte (b : Bool) : List Byte := [if b then 1 else 0]

/-! ### A display refreshed -/

/-- The station's display shows the board (R121): it is the selection, or the last board of a station with no selection. -/
def Station.Showing (x : Station) (lug : Lug) : Prop :=
  x.selection = some lug ∨ (x.selection = none ∧ x.last = some lug)

/-- A display line `d` formed at a station (R114): it goes to the young end of the output queue when no display line waits there,
and takes the place of the one that waits; the line being sent is finished as it stands. -/
def Station.Refreshed (x : Station) (d : DisplayLine) (y : Station) : Prop :=
  let begun := if x.sending then 1 else 0
  let waiting := x.output.drop begun
  let other := fun l : StationLine => ∀ e, l ≠ .display e
  y = { x with output := y.output } ∧ ((∀ l ∈ waiting, other l) → y.output = x.output ++ [.display d]) ∧
    ∀ older e younger, waiting = older ++ .display e :: younger → (∀ l ∈ older ++ younger, other l) →
      y.output = x.output.take begun ++ older ++ .display d :: younger

/-- A refresh as it stands at the end of its event: the station is sending. -/
def Station.Shows (x : Station) (d : DisplayLine) (y : Station) : Prop :=
  x.Refreshed d { y with sending := x.sending } ∧ y.sending = true

/-- Between `s` and `t` the displays that show the board were refreshed (R122), and no other station changed. -/
def State.RefreshedFor (s t : State) (lug : Lug) : Prop :=
  ∀ st, ((s.station st).Showing lug → (s.station st).Refreshed (t.displayLine st) (t.station st)) ∧
    (¬ (s.station st).Showing lug → t.station st = s.station st)

/-- As `RefreshedFor`, at the end of the event. -/
def State.DisplayedFor (s t : State) (lug : Lug) : Prop :=
  ∀ st, ((s.station st).Showing lug → (s.station st).Shows (t.displayLine st) (t.station st)) ∧
    (¬ (s.station st).Showing lug → t.station st = s.station st)

/-- A station with a record taken and its reply queued (R112, R114), before its sending begins. -/
def Station.replied (x : Station) (r : StationReply) : Station :=
  { x with records := min (x.records + 1) 65535, output := x.output ++ [.reply r] }

/-! ### The store after a completion -/

/-- The reclaimable block with the lowest number from block `i` on, or none (R165). -/
def Store.LowestReclaimable (x : Store) (i : Nat) : Option Nat → Prop
  | none => ∀ k b, i ≤ k → x.blocks[k]? = some b → reclaimable x.blocks b = false
  | some j => i ≤ j ∧ (∃ b, x.blocks[j]? = some b ∧ reclaimable x.blocks b = true) ∧
      ∀ k b, i ≤ k → k < j → x.blocks[k]? = some b → reclaimable x.blocks b = false

/-- A relocation is wanted (R166): some block's erase count exceeds the STATIC block's by more than 200. -/
def Store.WantsRelocation (x : Store) : Prop :=
  ∃ (i : Nat) (b y : Block), x.blocks[i]? = some b ∧ b.state = .static ∧
    (∀ (k : Nat) (z : Block), k < i → x.blocks[k]? = some z → z.state ≠ .static) ∧
    y ∈ x.blocks ∧ b.eraseCount + 200 < y.eraseCount

/-- What follows a reclaim with nothing left to erase and no operation in flight (R162): a deferred checkpoint is dealt with when
the queue has room, as a request under R163 (it joins one that waits, is dropped and counted in condition FULL, with a reclaim
tried, or is queued and begins in an empty queue), and its mark is cleared; then a due relocation is queued when room remains and
R166 allows it, and its mark is cleared; then the oldest operation begins. Log entries 18 and 51. -/
def State.ServedAfterReclaim (s t : State) : Prop :=
  let x := s.store
  let taken := x.deferred = true ∧ x.queue.length < 4
  ∃ u : State,
    (¬ taken → u = s) ∧
    (taken → .checkpoint ∈ x.queue → u = s.setStore { x with deferred := false }) ∧
    (taken → .checkpoint ∉ x.queue → x.conditionFull = true → ∃ next, x.LowestReclaimable 0 next ∧
      u = s.setStore { x with deferred := false, skipped := min (x.skipped + 1) 65535, erasing := next }) ∧
    (taken → .checkpoint ∉ x.queue → x.conditionFull = false →
      u = (s.setStore { x with deferred := false, queue := x.queue ++ [.checkpoint] }).beginStoreOp) ∧
    let y := u.store
    let allowed := y.relocationDue = true ∧ y.queue.length < 4 ∧ .relocate ∉ y.queue ∧ y.WantsRelocation ∧
      ∃ b ∈ y.blocks, b.state = .free
    (allowed → t = (u.setStore { y with queue := y.queue ++ [.relocate], relocationDue := false }).beginStoreOp) ∧
    (¬ allowed → t = u.beginStoreOp)

/-- How the store goes on when an operation or an erase has completed and the relocation was tested (R162, R165): the lowest
reclaimable block from block `i` on is erased, and nothing begins before that erase; with none left, and no operation in flight,
what follows a reclaim. -/
def State.GoesOn (s : State) (i : Nat) (t : State) : Prop :=
  ∃ next, s.store.LowestReclaimable i next ∧
    (∀ j, next = some j → t = s.setStore { s.store with erasing := some j }) ∧
    (next = none → s.store.inFlight.isSome = true → t = s) ∧
    (next = none → s.store.inFlight = none → s.ServedAfterReclaim t)

/-- The blocks once a write is complete (R161): its record stands in its block, after the others. -/
def Store.withRecord (x : Store) (w : FlashWrite) : List Block :=
  x.blocks.modify w.block fun b => { b with records := b.records ++ [w.record] }

/-- The blocks once a write into the STATIC block, or into a new one, is complete (R164, R166): the new block becomes STATIC, and
the former one is erased to FREE. -/
def Store.withStaticRecord (x : Store) (w : FlashWrite) : List Block :=
  let blocks := x.withRecord w
  let erased := fun b : Block => Block.mk true (b.eraseCount + 1) .journal [] .free
  let cleared := match blocks.findIdx? fun b => decide (b.state = BlockState.static) with
    | some i => blocks.modify i erased
    | none => blocks
  if w.newStatic then cleared.modify w.block fun b => { b with state := .static } else blocks

/-- The oldest operation complete, before the relocation test and the reclaim (R161, R164, R166): it has left the queue, and its
record, when it wrote one, stands. A journal write that was not made leaves the condition FULL, with its notice when it was NORMAL,
and a checkpoint counts as skipped (log entry 16); a settings write not made is reported (log entry 19); a relocation with no copy
does nothing more. -/
def State.operationDone (s : State) (op : StoreOp) (rest : List StoreOp) (write : Option FlashWrite) : State :=
  let x := { s.store with queue := rest, inFlight := none }
  let report := fun kind => s.link.queueNotice (.fault (.storeFull kind s.chain.lug))
  let full := fun kind (x : Store) =>
    if s.store.conditionFull then s.setStore x else (s.setStore { x with conditionFull := true }).setLink (report kind)
  match op, write with
  | .checkpoint, some w => s.setStore { x with blocks := x.withRecord w }
  | .checkpoint, none => full .checkpoint { x with skipped := min (x.skipped + 1) 65535 }
  | .period _, some w => s.setStore { x with blocks := x.withRecord w }
  | .period _, none => full .period x
  | .settings _, some w => s.setStore { x with blocks := x.withStaticRecord w }
  | .settings _, none => (s.setStore x).setLink (report .settings)
  | .relocate, some w => s.setStore { x with blocks := x.withStaticRecord w }
  | .relocate, none => s.setStore x

/-! ### A checkpoint asked for behind another operation -/

/-- What a store holds after an operation was queued behind `x`'s queue and a checkpoint then asked for (R162, R163): the
checkpoint joins one that waits, is deferred by a full queue, dropped in condition FULL, or queued. -/
def Store.AskedBehind (x : Store) (op : StoreOp) (y : Store) : Prop :=
  let waiting := if x.inFlight.isSome then x.queue.tail else x.queue
  let queued := x.queue ++ [op]
  (.checkpoint ∈ waiting → y.queue = queued ∧ y.deferred = x.deferred ∧ y.skipped = x.skipped) ∧
    (.checkpoint ∉ waiting → 4 ≤ queued.length → y.queue = queued ∧ y.deferred = true ∧ y.skipped = x.skipped) ∧
    (.checkpoint ∉ waiting → queued.length < 4 → x.conditionFull = true →
      y.queue = queued ∧ y.deferred = x.deferred ∧ y.skipped = min (x.skipped + 1) 65535) ∧
    (.checkpoint ∉ waiting → queued.length < 4 → x.conditionFull = false →
      y.queue = queued ++ [.checkpoint] ∧ y.deferred = x.deferred ∧ y.skipped = x.skipped)

/-! ### Conditions that every step keeps -/

/-- A log's counts agree with each other: done is what its results add up to (R25), no more boards are seen than are
pending or done (R23), and a CUT log has room (R22, R23). -/
def Log.AddsUp (l : Log) : Prop :=
  l.doneCount = l.pieces + l.chips + l.missedLost ∧ l.seen ≤ l.pending + l.doneCount ∧
    (l.state = .cut → ∃ n, l.announced = some n ∧ l.seen < n)

/-- The open logs: at most 16, with their accounts in order, and the next log id in its range (R20). -/
def LogScaler.AccountsAddUp (x : LogScaler) : Prop :=
  x.queue.length ≤ Config.openLogs ∧ 1 ≤ x.nextId ∧ x.nextId ≤ 65535 ∧
    ∀ l ∈ x.queue, l.AddsUp ∧ 1 ≤ l.id ∧ l.id ≤ 65535

/-- Settings that the store could give back: the BASE frame has its 27 values. -/
def Settings.Whole (i : Settings) : Prop := i.base.length = 27

/-- The settings records of the flash and of the queue are whole. -/
def Store.SettingsWhole (x : Store) : Prop :=
  (∀ b ∈ x.blocks, ∀ r ∈ b.records, ∀ i, r.body = .settings i → i.Whole) ∧
    (∀ i, StoreOp.settings i ∈ x.queue → i.Whole) ∧
    ∀ f w i, x.inFlight = some f → f.write = some w → w.record.body = .settings i → i.Whole

/-- The shape of the frame chain (R72, R78). The store's settings are part of the condition, since a start takes the BASE
frame from them (R87). -/
def State.FrameChainOk (s : State) : Prop :=
  s.frames.base.length = 27 ∧ (s.frames.run.isSome = s.solver.run.isSome) ∧
    (s.frames.run = none → s.frames.holds = []) ∧
    (∀ st : StationId, (s.frames.holds.filter fun h => h.owner = st).length ≤ 2) ∧
    1 ≤ s.frames.nextCode ∧ s.frames.nextCode ≤ 255 ∧
    (∀ h ∈ s.frames.holds, 1 ≤ h.code ∧ h.code ≤ 255 ∧ 1 ≤ h.ceiling ∧ h.ceiling ≤ 5) ∧ s.store.SettingsWhole

/-- The trimmer port's lines follow its presented slot (R129, R132), and no decision is on them before STARTING has ended
(R141). -/
def State.TrimmerOk (s : State) : Prop :=
  (s.trimmer.staged.isSome → s.trimmer.presented.isSome) ∧
    (s.trimmer.onLines = true → s.power = .ready ∧ s.chain.line = .running ∧ s.trimmer.phase = .on ∧
      ∃ x, s.trimmer.presented = some x ∧
        s.trimmer.lines = { saws := x.mask, tag := BitVec.ofNat 6 x.lug.toNat, dv := true }) ∧
    (s.trimmer.onLines = false → s.trimmer.phase ≠ .on ∧ s.trimmer.lines = { saws := 0, tag := 0, dv := false })

/-- The product tally in order (R147): at most 256 bins, each key once, and each bin's twelfths its pieces times the volume
of a piece, while neither has saturated. -/
def LiveTally.InOrder (t : LiveTally) : Prop :=
  t.body.bins.length ≤ Config.tallyBins ∧ (t.body.bins.map TallyBin.key).Nodup ∧
    ∀ b ∈ t.body.bins, b.pieces.saturated = false → b.twelfths.saturated = false →
      b.twelfths.value = b.pieces.value * (b.key.thickness * b.width * b.key.length)

/-- The live tally is in order, and so is every one that the store could give back. -/
def State.ProductTallyOk (s : State) : Prop :=
  s.tally.live.InOrder ∧
    (∀ b ∈ s.store.blocks, ∀ r ∈ b.records, ∀ c, r.body = .checkpoint c → c.live.InOrder) ∧
    ∀ f w c, s.store.inFlight = some f → f.write = some w → w.record.body = .checkpoint c → c.live.InOrder

/-- The queues within their capacities: replies (R180), notices (R182), store operations (R162), captures (R174), the reply and
message lines of each station (R112, R114). -/
def State.QueuesBounded (s : State) : Prop :=
  s.link.replies.length ≤ Config.replyCapacity ∧ s.link.notices.length ≤ Config.noticeCapacity ∧
    s.store.queue.length ≤ Config.storeQueue ∧ s.watch.captures.length ≤ Config.captureCapacity ∧
    s.stationA.lineCount ≤ Config.stationLines ∧ s.stationB.lineCount ≤ Config.stationLines

/-- A block holds a valid checkpoint. -/
def Block.HasCheckpoint (b : Block) : Prop := ∃ r ∈ b.records, r.valid = true ∧ r.isCheckpoint = true

/-- What the flash itself keeps to: a checkpoint lies in a journal block with a readable header, and a settings record in no
such block. -/
def Store.RolesKept (x : Store) : Prop :=
  (∀ b ∈ x.blocks, b.HasCheckpoint → b.headerOk = true ∧ b.role = .journal) ∧
    ∀ b ∈ x.blocks, b.headerOk = true → b.role = .journal → ∀ r ∈ b.records, r.isSettings = false

/-- What the block table of a processor with power keeps to: a checkpoint lies in an ACTIVE or FULL block, the block being
erased is FULL, a FREE block is an empty journal block or the one being written as the new STATIC block. -/
def Store.TableKept (x : Store) : Prop :=
  (∀ b ∈ x.blocks, b.HasCheckpoint → b.state = .active ∨ b.state = .full) ∧
    (∀ b ∈ x.blocks, b.state = .active → b.headerOk = true ∧ b.role = .journal) ∧
    (∀ b ∈ x.blocks, b.state = .static → b.role = .static) ∧
    (∀ i b, x.blocks[i]? = some b → b.state = .free → b.records = [] ∧
      ((b.headerOk = true ∧ b.role = .journal) ∨
        ∃ f w, x.inFlight = some f ∧ f.write = some w ∧ w.newStatic = true ∧ w.block = i)) ∧
    (∀ i b, x.erasing = some i → x.blocks[i]? = some b → b.state = .full) ∧
    ∀ f w, x.inFlight = some f → f.write = some w →
      (w.newStatic = true → ∃ op rest, x.queue = op :: rest ∧ (op = .relocate ∨ ∃ i, op = .settings i)) ∧
      ∀ b, x.blocks[w.block]? = some b →
        if w.newStatic then w.record.isSettings = true ∧ b.state = .free ∧ b.role = .static
        else if w.record.isSettings then b.state = .static else b.state = .active

/-- A valid checkpoint stands in a block that no erase in progress will empty (R165), and the flash, the block table and the
write in flight are such that it stays there. -/
def State.CheckpointSafe (s : State) : Prop :=
  (∃ (j : Nat) (b : Block), s.store.blocks[j]? = some b ∧ b.HasCheckpoint ∧ s.store.erasing ≠ some j) ∧ s.store.RolesKept ∧
    (s.powered = true → s.store.TableKept) ∧
    (s.powered = false → s.store.inFlight = none ∧ s.store.erasing = none)

/-! ### The text of a key -/

/-- A key's record without its CR (section 7.4). -/
def keyText : Key → List Byte
  | .gradeMark g => textOf ['G', ' '] ++ decimalText g
  | .trimMark p q => textOf ['T', ' '] ++ decimalText p ++ textOf [' '] ++ decimalText q
  | .chip => textOf ['C']
  | .release => textOf ['R']
  | .older => textOf ['P']
  | .hold g n => textOf ['H', ' '] ++ decimalText g ++ textOf [' '] ++ decimalText n
  | .cancel => textOf ['X']
  | .refresh => textOf ['?']

/-- A field of a record spells a number (R113): one to five digits, read in decimal, the first the most significant. -/
def SpellsNumber (field : List Byte) (n : Nat) : Prop :=
  1 ≤ field.length ∧ field.length ≤ 5 ∧ (∀ b ∈ field, 48 ≤ b.toNat ∧ b.toNat ≤ 57) ∧
    n = (field.reverse.zipIdx.map fun d => (d.1.toNat - 48) * 10 ^ d.2).sum

/-- A record without its CR spells a key (R113): the key letter, and before each field of that key one space, with the fields in
their ranges. The n of `H` has no range. -/
def Spells (record : List Byte) : Key → Prop
  | .gradeMark g => 1 ≤ g ∧ g ≤ 5 ∧ ∃ x, SpellsNumber x g ∧ record = textOf ['G', ' '] ++ x
  | .trimMark p q => p + 3 ≤ q ∧ q ≤ 10 ∧
      ∃ x y, SpellsNumber x p ∧ SpellsNumber y q ∧ record = textOf ['T', ' '] ++ x ++ textOf [' '] ++ y
  | .chip => record = textOf ['C']
  | .release => record = textOf ['R']
  | .older => record = textOf ['P']
  | .hold g n => 1 ≤ g ∧ g ≤ 5 ∧
      ∃ x y, SpellsNumber x g ∧ SpellsNumber y n ∧ record = textOf ['H', ' '] ++ x ++ textOf [' '] ++ y
  | .cancel => record = textOf ['X']
  | .refresh => record = textOf ['?']

/-- The command of a key. -/
def keyCommand (st : StationId) : Key → Instr
  | .gradeMark g => .gradeMarkKey st g
  | .trimMark p q => .trimMarkKey st p q
  | .chip => .chipKey st
  | .release => .releaseKey st
  | .older => .selectOlderKey st
  | .hold g n => .holdKey st g n
  | .cancel => .cancelHoldKey st
  | .refresh => .refreshKey st

/-! ### The command of a frame -/

/-- The command of a good frame: the request of its type, or UNKNOWN_TYPE (section 12.4, R180). STATUS samples chain-run. -/
def requestCommand (type tag : Byte) (body : List Byte) (chainRun : Bool) : Instr :=
  match type.toNat with
  | 0x01 => .status tag body chainRun
  | 0x02 => .setLine tag body
  | 0x03 => .setBaseRules tag body
  | 0x04 => .saveSettings tag body
  | 0x05 => .openRun tag body
  | 0x06 => .closeRun tag body
  | 0x07 => .priceSet tag body
  | 0x08 => .priceWithdraw tag body
  | 0x09 => .priceRestore tag body
  | 0x0A => .priceRead tag body
  | 0x0B => .frameRead tag body
  | 0x0C => .orderSet tag body
  | 0x0D => .orderCancel tag body
  | 0x0E => .orderRead tag body
  | 0x0F => .binSet tag body
  | 0x10 => .binClear tag body
  | 0x11 => .binRead tag body
  | 0x12 => .logStart tag body
  | 0x13 => .logCut tag body
  | 0x14 => .tallyRead tag body
  | 0x15 => .tallyClose tag body
  | 0x16 => .periodRead tag body
  | 0x17 => .watchSet tag body
  | 0x18 => .watchClear tag body
  | 0x19 => .captureRead tag body
  | 0x1A => .lineResume tag body
  | 0x1B => .clearLine tag body
  | _ => .unknownType type tag body

/-- The body lengths that the table of R191 allows a request type. -/
def lengthAllowed (type : Nat) (body : List Byte) : Prop :=
  (type ∈ [0x01, 0x06, 0x0B, 0x0E, 0x11, 0x12, 0x15, 0x19, 0x1A, 0x1B] → body.length = 0) ∧
    (type = 0x02 → body.length = 10) ∧ (type = 0x03 → body.length = 27) ∧ (type = 0x04 → body.length = 5) ∧
    (type = 0x05 → 7 + 3 * (body.getD 4 0).toNat ≤ body.length ∧
      body.length = 7 + 3 * (body.getD 4 0).toNat + 2 * (body.getD (6 + 3 * (body.getD 4 0).toNat) 0).toNat) ∧
    (type = 0x07 → 2 ≤ body.length ∧ body.length = 2 + 2 * (body.getD 1 0).toNat) ∧
    (type ∈ [0x08, 0x09, 0x0A, 0x0D] → body.length = 2) ∧ (type = 0x0C → body.length = 9) ∧
    (type = 0x0F → body.length = 4) ∧ (type = 0x10 → body.length = 3) ∧ (type = 0x13 → body.length = 4) ∧
    (type = 0x14 → body.length = 3) ∧ (type = 0x16 → body.length = 5) ∧ (type = 0x17 → body.length = 9) ∧
    (type = 0x18 → body.length = 1)

end Sys2Proof.Machine
end

