-- ==== Sys2Proof/Certificates/Slice0/Obligations.lean ====
section
/-! DEFINITION. The statements about the model, in the order of the spec's chapters. A statement that rests on a choice of
the model names its entry of the assumption log; one whose link stands after `takeUp` or `answered` rests on entry 5, that a
sender looks at the end of an event. -/

open Sys2Proof Sys2Proof.Machine

/-! ### Commands, reset -/

/-- A step takes the command at the front of the queue and carries it out on the rest. The operations and events are "each whole
and indivisible" (What each step holds); the queue itself is the model's (log entry 1). -/
def Obligations.StepRunsFrontCommand : Prop :=
  ∀ (c : Instr) (rest : List Instr) (s : State), step (s.setPending (c :: rest)) = exec c (s.setPending rest)

/-- Every command runs in every state: none faults, none is refused, and none touches the commands that wait. That none stops is
the model's choice (log entry 31), and the queue of waiting commands is the model's own (log entry 1). -/
def Obligations.EveryCommandTakesNextState : Prop :=
  ∀ (c : Instr) (s : State), ∃ t, exec c s = .next t ∧ t.pending = s.pending

/-- Every command, in any state in which the senders are settled, leaves them settled: at the end of each event an idle
transmitter with a reply or notice queued, and an idle station with a line queued, has begun to send (R114, R181; that they
look at the end of an event is the model's choice, log entry 5). -/
def Obligations.SendersNeverStandIdle : Prop :=
  ∀ (c : Instr) (s t : State), s.Settled → exec c s = .next t → t.Settled

/-- What the spec's chapters say of the state after power-on, on a flash that holds nothing (R14, R29, R49, R68, R87,
R110, R127, R141, R145, R159, R177, R188). The pins, the supply's state and the blank flash are the model's choice (log
entry 2). -/
def Obligations.ResetStateHoldsPowerOnValues : Prop :=
  let s := State.reset
  s.power = .starting .powerOn ∧ s.pending = [] ∧
  s.chain.lug = 0 ∧ s.chain.phase = 0 ∧ s.chain.backlash = 0 ∧ s.chain.aligned = false ∧
  s.chain.boundaryMark = false ∧ s.chain.slips = 0 ∧ s.chain.eyeMisses = 0 ∧ s.chain.encoderErrors = 0 ∧
  s.chain.config = { pulses := 512, tolerance := 32, markA := 6, markB := 9, window := 3, commit := 14, deadline := 18,
                     sort := 24 } ∧
  s.logs = { queue := [], nextId := 1, shortRecords := 0, emptyRecords := 0, forcedCloses := 0 } ∧
  s.scan.currentLug = none ∧ s.scan.boardPresent = false ∧ s.scan.held = none ∧ s.scan.context = 0 ∧
  s.scan.vision = .absent ∧ s.track = { boards := [], notCommitted := 0 } ∧
  s.frames.run = none ∧ s.frames.holds = [] ∧ s.frames.generation = 0 ∧ s.frames.nextCode = 1 ∧
  s.frames.base = [56, 54, 52, 48, 44, 0, 10, 25, 40, 60, 2, 5, 8, 11, 14, 0, 0, 1, 1, 1, 0, 10, 10, 15, 20, 1, 3] ∧
  s.solver.queue = [] ∧ s.solver.inProgress = none ∧ s.solver.run = none ∧
  s.solver.values = List.replicate 200 { state := .absent, value := 0 } ∧
  s.stationA.selection = none ∧ s.stationB.selection = none ∧ s.stationA.output = [] ∧ s.stationB.output = [] ∧
  s.trimmer.presented = none ∧ s.trimmer.staged = none ∧ s.trimmer.phase = .ready ∧ s.trimmer.mode = .interlocked ∧
  s.trimmer.width = 20 ∧ s.trimmer.lines = { saws := 0, tag := 0, dv := false } ∧
  s.sorter.bins = [] ∧ s.sorter.defaultBin = 30 ∧ s.sorter.strobe = .idle ∧ s.sorter.waiting = none ∧
  s.tally.period = 1 ∧ s.tally.orders = [] ∧ s.tally.accepted = 0 ∧ s.tally.interval = 32 ∧
  s.store.queue = [] ∧ s.store.inFlight = none ∧ s.store.nextSeq = 1 ∧ s.store.conditionFull = false ∧
  s.watch.captures = [] ∧ s.watch.slots.map WatchSlot.state = [.empty, .empty, .empty, .empty] ∧
  s.link.replies = [] ∧ s.link.notices = [] ∧ s.link.noticeTag = 0 ∧ s.link.framer.receiving = false

/-! ### Chapter 1: chain, lugs and line stations -/

/-- An encoder pulse that takes no boundary (R1, R2): an error is counted, a reverse pulse adds backlash, a forward pulse
pays backlash off or adds to the phase; nothing else changes but the encoder pair. Which rotation is forward is the model's
choice (log entry 35). -/
def Obligations.EncoderPulseCountsPhaseOrBacklash : Prop :=
  ∀ (s : State) (a b : Bool) (x : BoundarySample), s.Attentive →
    let change := (s.pins.encA, s.pins.encB, a, b)
    let pulsed := s.setPins { s.pins with encA := a, encB := b }
    (a ≠ s.pins.encA → b ≠ s.pins.encB → exec (.encoderPulse a b x) s =
      .next (pulsed.setChain { s.chain with encoderErrors := min (s.chain.encoderErrors + 1) 65535 })) ∧
    (change ∈ reverseChanges → exec (.encoderPulse a b x) s =
      .next (pulsed.setChain { s.chain with backlash := min (s.chain.backlash + 1) 65535 })) ∧
    (change ∈ forwardChanges → 0 < s.chain.backlash → exec (.encoderPulse a b x) s =
      .next (pulsed.setChain { s.chain with backlash := s.chain.backlash - 1 })) ∧
    (change ∈ forwardChanges → s.chain.backlash = 0 → s.chain.phase + 1 < s.chain.config.pulses →
      exec (.encoderPulse a b x) s = .next (pulsed.setChain { s.chain with phase := s.chain.phase + 1 }))

/-- The forward pulse that brings the phase to P takes a lug boundary (R2, R3), and the boundary is handed on: a record is
opened for wood and every board's events are raised at their offsets, oldest board first (R51, R57: marks A and B, window ends,
commit, deadline, sort); the window of the lug that leaves closes (R33); the HOLD counters and the straggler timers count at a
gated boundary (R7, R9); the receivers in the order the command gives (log entry 4).

What such a boundary leaves: the lug number, the marks and the samples; the new lug at the scan line (R33, R34); the record
opened for wood; the HOLD counters, with the frames whose expiry is pending removed where the expiries are serviced first
(R81). Which rotation is forward is the model's choice (log entry 35). -/
def Obligations.EncoderBoundaryTakesNextLug : Prop :=
  (∀ (s : State) (a b : Bool) (x : BoundarySample), s.Attentive →
     (s.pins.encA, s.pins.encB, a, b) ∈ forwardChanges → s.chain.backlash = 0 →
     s.chain.config.pulses ≤ s.chain.phase + 1 →
     let marked := (s.setPins { s.pins with encA := a, encB := b }).setChain { s.chain with
       phase := 0, boundaryMark := true,
       eyeMisses := if s.chain.boundaryMark = true ∧ s.chain.aligned = true then min (s.chain.eyeMisses + 1) 65535
         else s.chain.eyeMisses }
     exec (.encoderPulse a b x) s = .next (marked.boundaryAt x).takeUp) ∧
  (∀ (s : State) (a b : Bool) (x : BoundarySample), s.Attentive →
     (s.pins.encA, s.pins.encB, a, b) ∈ forwardChanges → s.chain.backlash = 0 →
     s.chain.config.pulses ≤ s.chain.phase + 1 → s.chain.config.inRange = true →
     (∀ k ∈ s.track.boards, k.lug ≠ s.chain.lug + 1) → s.scan.currentLug ≠ some (s.chain.lug + 1) →
     let counted := if x.chainRun then s.frames.holds.map fun h => { h with timer := h.timer.countDown } else s.frames.holds
     ∃ t, exec (.encoderPulse a b x) s = .next t ∧
       t.pins = { s.pins with encA := a, encB := b, presence := x.presence, chainRun := x.chainRun } ∧
       t.chain = { s.chain with
         lug := s.chain.lug + 1, phase := 0, boundaryMark := true,
         eyeMisses := if s.chain.boundaryMark = true ∧ s.chain.aligned = true then min (s.chain.eyeMisses + 1) 65535
           else s.chain.eyeMisses } ∧
       t.scan.currentLug = some (s.chain.lug + 1) ∧ t.scan.boardPresent = x.presence ∧ t.scan.cleared = false ∧
       t.scan.headsReceived = List.replicate 11 false ∧ t.scan.held = none ∧ t.scan.answered = false ∧
       t.board? (s.chain.lug + 1) =
         (if x.presence then some (Board.opened (s.chain.lug + 1) (s.solver.run.map Run.number)) else none) ∧
       (x.expiriesFirst = false → t.frames = { s.frames with holds := counted }) ∧
       (x.expiriesFirst = true → t.frames = { s.frames with
         holds := counted.filter fun h => !h.timer.expiryPending,
         generation := s.frames.generation +
           BitVec.ofNat 16 (counted.filter fun h => h.timer.expiryPending).length }) ∧
       s.sameBut t [.pins, .chain, .logs, .scan, .track, .frames, .solver, .stationA, .stationB, .trimmer, .sorter, .tally,
                    .store, .watch, .link])

/-- The first eye pulse aligns the phase and does nothing else; a late eye takes no boundary, and is a slip when the
phase exceeds the tolerance (R4, R5, R6).

An early eye takes the boundary that the encoder had not reached, handed on as any other, whether in tolerance or not;
beyond the tolerance it is a slip, reported, which flags every board then held (R5, R6; the receivers' order is the
command's, log entry 4). -/
def Obligations.SyncEyeAlignsOrCorrectsPhase : Prop :=
  (∀ (s : State) (x : BoundarySample), s.Attentive →
     let corrected : Chain := { s.chain with phase := 0, boundaryMark := false, aligned := true }
     (s.chain.aligned = false → exec (.syncEyePulse x) s = .next (s.setChain corrected)) ∧
     (s.chain.aligned = true → s.chain.boundaryMark = true → s.chain.phase ≤ s.chain.config.tolerance →
       exec (.syncEyePulse x) s = .next (s.setChain corrected)) ∧
     (s.chain.aligned = true → s.chain.boundaryMark = true → s.chain.config.tolerance < s.chain.phase →
       exec (.syncEyePulse x) s = .next (((s.setChain { corrected with slips := min (s.chain.slips + 1) 65535 }).setTrack
           { s.track with boards := s.track.boards.map fun b => { b with flags := { b.flags with slipped := true } } }).setLink
         (s.link.queueNotice (.fault (.lugSlip s.chain.lug s.chain.phase false))).takeUp))) ∧
  (∀ (s : State) (x : BoundarySample), s.Attentive → s.chain.aligned = true → s.chain.boundaryMark = false →
     let slip := s.chain.config.tolerance < s.chain.config.pulses - s.chain.phase
     ∃ t, exec (.syncEyePulse x) s = .next t ∧
       t.chain = { s.chain with
         lug := s.chain.lug + 1, phase := 0,
         slips := if slip then min (s.chain.slips + 1) 65535 else s.chain.slips } ∧
       t.pins = { s.pins with presence := x.presence, chainRun := x.chainRun } ∧
       t.scan.currentLug = some (s.chain.lug + 1) ∧ t.scan.boardPresent = x.presence ∧
       (slip → ∀ b ∈ t.track.boards, b.flags.slipped = true) ∧
       (let u := (s.setChain { s.chain with phase := 0, boundaryMark := false, aligned := true }).boundaryAt x
        t = (if slip then
            ((u.setChain { u.chain with slips := min (s.chain.slips + 1) 65535 }).setTrack { u.track with
                boards := u.track.boards.map fun b => { b with flags := { b.flags with slipped := true } } }).setLink
              (u.link.queueNotice (.fault (.lugSlip (s.chain.lug + 1) (s.chain.config.pulses - s.chain.phase) true)))
          else u).takeUp) ∧
       s.sameBut t [.pins, .chain, .logs, .scan, .track, .frames, .solver, .stationA, .stationB, .trimmer, .sorter, .tally,
                    .store, .watch, .link])

/-- The line-stop input and LINE RESUME (R12, R13, R137): a stop drops the trimmer's lines, queues its notice and asks for a
checkpoint; a stop of a stopped line and a release change the input's level alone. A decision that was on the lines is kept and
marked to be presented again, and the phase becomes READY in INTERLOCKED mode or begins the gap in PULSED mode (R137); both slots
are kept, exchanged when the staged board is the older one (R130). A mark that a staged decision carries stays (log entry 41).

LINE RESUME by line state and input (R13); the resume presents a waiting decision (R138). That the transmitter looks at the end
of the event is the model's choice (log entry 5). -/
def Obligations.LineStopsAndResumes : Prop :=
  (∀ (s : State), s.Attentive →
     (s.chain.line = .running → ∃ t, exec .lineStop s = .next t ∧
       t.pins = { s.pins with lineStop := true } ∧ t.chain = { s.chain with line := .stopped } ∧
       t.link = (s.link.queueNotice (.lineStopped s.chain.lug)).takeUp ∧
       (let x := s.trimmer
        let stopped : Trimmer := { x with
          lines := { saws := 0, tag := 0, dv := false }, onLines := false,
          presented := if x.onLines then x.presented.map fun y => { y with again := true } else x.presented,
          phase := if x.onLines = false then x.phase else if x.mode = .interlocked then .ready else .recovering }
        let older := fun p q : Slot => (s.chain.lug - p.lug).toNat < (s.chain.lug - q.lug).toNat
        (∀ p q, stopped.presented = some p → x.staged = some q → older p q →
          t.trimmer = { stopped with presented := some q, staged := some p }) ∧
        ((∀ p q, stopped.presented = some p → x.staged = some q → ¬ older p q) → t.trimmer = stopped)) ∧
       t.store = s.requestCheckpoint.store ∧
       s.sameBut t [.pins, .chain, .link, .trimmer, .store]) ∧
     (s.chain.line = .stopped → exec .lineStop s = .next (s.setPins { s.pins with lineStop := true })) ∧
     exec .lineStopRelease s = .next (s.setPins { s.pins with lineStop := false })) ∧
  (∀ (s : State) (tag : Byte), s.CanAnswer →
     (s.chain.line = .running → exec (.lineResume tag []) s = .next (s.setLink (s.link.answered 0x1A tag .accepted []))) ∧
     (s.chain.line = .stopped → s.pins.lineStop = true →
       exec (.lineResume tag []) s = .next (s.setLink (s.link.answered 0x1A tag .stopped []))) ∧
     (s.chain.line = .stopped → s.pins.lineStop = false → ∃ t, exec (.lineResume tag []) s = .next t ∧
       t.chain = { s.chain with line := .running } ∧ t.link = s.link.answered 0x1A tag .accepted [] ∧
       (∀ x, s.trimmer.presented = some x → s.trimmer.onLines = false → s.trimmer.phase = .ready →
         t.trimmer.lines = { saws := x.mask, tag := trimTag x.lug, dv := true } ∧ t.trimmer.onLines = true ∧
           t.trimmer.phase = .on) ∧
       (s.trimmer.presented = none ∨ s.trimmer.onLines = true ∨ s.trimmer.phase ≠ .ready → t.trimmer = s.trimmer) ∧
       s.sameBut t [.chain, .trimmer, .link]))

/-- SET LINE (R10, R11): the values in force with the tolerance field 0 as floor(P/16), a change of P losing the phase's
alignment; OUT_OF_RANGE before BUSY, and a refusal changes nothing. -/
def Obligations.SetLineTakesAllOrNothing : Prop :=
  ∀ (s : State) (tag : Byte) (body : List Byte), s.CanAnswer → body.length = 10 →
    let v := setLineFields body
    let good := 64 ≤ v.pulses ∧ v.pulses ≤ 4096 ∧ v.tolerance ≤ v.pulses / 4 ∧ 1 ≤ v.markA ∧ v.markA ≤ 30 ∧
      1 ≤ v.markB ∧ v.markB ≤ 30 ∧ 1 ≤ v.window ∧ v.window ≤ 10 ∧ v.markA < v.commit ∧ v.markB < v.commit ∧
      v.commit ≤ 40 ∧ v.commit < v.deadline ∧ v.deadline ≤ 50 ∧ v.deadline ≤ v.sort ∧ v.sort ≤ 62
    let inForce : LineConfig := if v.tolerance = 0 then { v with tolerance := v.pulses / 16 } else v
    (¬ good → exec (.setLine tag body) s = .next (s.setLink (s.link.answered 0x02 tag .outOfRange []))) ∧
    (good → s.track.boards ≠ [] → exec (.setLine tag body) s = .next (s.setLink (s.link.answered 0x02 tag .busy []))) ∧
    (good → s.track.boards = [] → v.pulses = s.chain.config.pulses → exec (.setLine tag body) s =
      .next ((s.setChain { s.chain with config := inForce }).setLink (s.link.answered 0x02 tag .accepted []))) ∧
    (good → s.track.boards = [] → v.pulses ≠ s.chain.config.pulses → exec (.setLine tag body) s =
      .next ((s.setChain { s.chain with config := inForce, phase := 0, boundaryMark := false, aligned := false }).setLink
        (s.link.answered 0x02 tag .accepted [])))

/-! ### Chapter 2: log infeed and scaling -/

/-- A log scan record taken whole (R16, R17, R20): discarded and reported for its station count or for want of a reading,
whether the queue is full or not, else a SCANNED log at the young end with the next id.

With the queue full (R20, R26) the oldest log is first closed with FORCED: its boards detached, its recovery record counted and
reported; the same log is then created.

The fill (R18): every station without a reading takes the floor of the mean of the nearest read stations on its two sides, or
the nearest one on its only side. The figures of a cleaned record (R19).

That a record which comes whole leaves its link hunting is the model's reading (log entry 11), that the transmitter looks at the
end of the event its choice (log entry 5). -/
def Obligations.LogScanRecordCreatesLog : Prop :=
  (∀ (s : State) (ds : List Half), s.Attentive →
     let n := ds.length
     let read := ds.map BitVec.toNat
     let clamped := read.map fun d => if d = 0 then 0 else if d < 20 then 20 else if 600 < d then 600 else d
     let hunting := s.link.setScanner .logScan none
     let created : Log :=
       { id := s.logs.nextId, state := .scanned, figures := scaleLog (fillStations clamped), announced := none, seen := 0,
         pending := 0, doneCount := 0, pieces := 0, chips := 0, missedLost := 0, twelfths := 0,
         flags := { filled := clamped.contains 0, clamped := decide (clamped ≠ read), countMismatch := false, short := false,
                    forced := false },
         timer := { reload := 40, remaining := 0, running := false, retrigger := .ignore, expiryPending := false } }
     (n < 2 ∨ 41 < n → exec (.logScanRecord ds) s =
       .next ((s.setLogs { s.logs with shortRecords := min (s.logs.shortRecords + 1) 65535 }).setLink
         (hunting.queueNotice (.fault (.logShort n))).takeUp)) ∧
     (2 ≤ n → n ≤ 41 → (∀ d ∈ read, d = 0) → exec (.logScanRecord ds) s =
       .next ((s.setLogs { s.logs with emptyRecords := min (s.logs.emptyRecords + 1) 65535 }).setLink
         (hunting.queueNotice (.fault (.logEmpty n))).takeUp)) ∧
     (2 ≤ n → n ≤ 41 → (∃ d ∈ read, d ≠ 0) → s.logs.queue.length < 16 → exec (.logScanRecord ds) s =
       .next ((s.setLogs { s.logs with
         queue := s.logs.queue ++ [created],
         nextId := if s.logs.nextId < 65535 then s.logs.nextId + 1 else 1 }).setLink hunting)) ∧
     ∀ (l : Log) (rest : List Log), 2 ≤ n → n ≤ 41 → (∃ d ∈ read, d ≠ 0) → s.logs.queue = l :: rest →
       16 ≤ s.logs.queue.length → (∀ x ∈ rest, x.id ≠ l.id) →
       let forced : Recovery := { l.recovery with flags := { l.flags with forced := true } }
       ∃ t, exec (.logScanRecord ds) s = .next t ∧
         t.logs = { s.logs with
           queue := rest ++ [created], nextId := if s.logs.nextId < 65535 then s.logs.nextId + 1 else 1,
           forcedCloses := min (s.logs.forcedCloses + 1) 65535 } ∧
         t.track = { s.track with
           boards := s.track.boards.map fun b => if b.logId = some l.id then { b with logId := none } else b } ∧
         t.link = (hunting.queueNotice (.logRecovery forced)).takeUp ∧
         t.tally = { s.tally with live := { s.tally.live with body := { s.tally.live.body with
           classes := s.tally.live.body.classes.modify l.figures.diameterClass (LogClass.addLog forced) } } } ∧
         s.sameBut t [.logs, .track, .link, .tally]) ∧
  (∀ ds : List Nat,
     (∀ (i v : Nat), ds[i]? = some v → v ≠ 0 → (fillStations ds)[i]? = some v) ∧
     (∀ (j i k u v : Nat), j < i → i < k → ds[j]? = some u → u ≠ 0 → ds[k]? = some v → v ≠ 0 →
       (∀ m, j < m → m < k → ds[m]? = some 0) → (fillStations ds)[i]? = some ((u + v) / 2)) ∧
     (∀ (i k v : Nat), i < k → ds[k]? = some v → v ≠ 0 → (∀ m, m < k → ds[m]? = some 0) →
       (fillStations ds)[i]? = some v) ∧
     (∀ (j i u : Nat), j < i → i < ds.length → ds[j]? = some u → u ≠ 0 →
       (∀ m, j < m → m < ds.length → ds[m]? = some 0) → (fillStations ds)[i]? = some u) ∧
     (fillStations ds).length = ds.length) ∧
  ∀ (ds : List Nat), 2 ≤ ds.length →
    let d := fun i => ds.getD i 0
    let sed := min (d 0) (d (ds.length - 1))
    let led := max (d 0) (d (ds.length - 1))
    let sections := ((List.range (ds.length - 1)).map fun i => d i ^ 2 + d (i + 1) ^ 2).sum
    scaleLog ds = { length := ds.length - 1, sed := sed, led := led, volume := (355 * sections + 65088) / 130176,
                    taper := 10 * (led - sed) / (ds.length - 1),
                    diameterClass := if sed < 40 then 0 else min 15 ((sed - 40) / 20) }

/-- LOG START (R21): refused while a log is SAWING or none is SCANNED; else the oldest SCANNED log becomes SAWING.

LOG CUT (R22): refused OUT_OF_RANGE or STATE; else the announced count is stored and the log becomes CUT with its
straggler timer running, or DRAINING, with COUNT_MISMATCH when more boards were seen; a log with none pending closes (R26). The
order in which the closing notice and the reply are sent is the model's choice (log entry 5). -/
def Obligations.LogRequestsFollowTheLogState : Prop :=
  (∀ (s : State) (tag : Byte), s.CanAnswer →
     ((∃ l ∈ s.logs.queue, l.state = .sawing) → exec (.logStart tag []) s =
       .next (s.setLink (s.link.answered 0x12 tag .state []))) ∧
     ((∀ l ∈ s.logs.queue, l.state ≠ .scanned) → exec (.logStart tag []) s =
       .next (s.setLink (s.link.answered 0x12 tag .state []))) ∧
     ∀ older l younger, s.logs.queue = older ++ l :: younger → l.state = .scanned →
       (∀ x ∈ older, x.state ≠ .scanned) → (∀ x ∈ s.logs.queue, x.state ≠ .sawing) →
       (∀ x ∈ older ++ younger, x.id ≠ l.id) →
       exec (.logStart tag []) s =
         .next ((s.setLogs { s.logs with queue := older ++ { l with state := .sawing } :: younger }).setLink
           (s.link.answered 0x12 tag .accepted []))) ∧
  (∀ (s : State) (tag hi lo : Byte) (count straggler : Byte), s.CanAnswer →
     let body := [hi, lo, count, straggler]
     let id := hi.toNat * 256 + lo.toNat
     (id = 0 ∨ 200 < straggler.toNat → exec (.logCut tag body) s =
       .next (s.setLink (s.link.answered 0x13 tag .outOfRange []))) ∧
     (id ≠ 0 → straggler.toNat ≤ 200 → (∀ l ∈ s.logs.queue, l.state = .sawing → l.id ≠ id) →
       (∀ x ∈ s.logs.queue, ∀ y ∈ s.logs.queue, x.id = y.id → x = y) →
       exec (.logCut tag body) s = .next (s.setLink (s.link.answered 0x13 tag .state []))) ∧
     ∀ older l younger, s.logs.queue = older ++ l :: younger → l.state = .sawing → l.id = id → id ≠ 0 →
       straggler.toNat ≤ 200 → (∀ x ∈ older ++ younger, x.id ≠ l.id) → l.timer.running = false →
       let n := if straggler = 0 then 40 else straggler.toNat
       (l.seen < count.toNat → exec (.logCut tag body) s =
         .next ((s.setLogs { s.logs with queue := older ++ { l with
           announced := some count.toNat, state := .cut,
           timer := { l.timer with reload := n, remaining := n, running := true } } :: younger }).setLink
           (s.link.answered 0x13 tag .accepted []))) ∧
       (count.toNat ≤ l.seen → 0 < l.pending → exec (.logCut tag body) s =
         .next ((s.setLogs { s.logs with queue := older ++ { l with
           announced := some count.toNat, state := .draining,
           flags := { l.flags with countMismatch := l.flags.countMismatch || decide (count.toNat < l.seen) } } ::
             younger }).setLink (s.link.answered 0x13 tag .accepted []))) ∧
       (count.toNat ≤ l.seen → l.pending = 0 → ∃ t, exec (.logCut tag body) s = .next t ∧
         t.logs = { s.logs with queue := older ++ younger } ∧
         t.link = ((s.link.frameIn.queueNotice (.logRecovery { l.recovery with
             announced := some count.toNat,
             flags := { l.flags with countMismatch := l.flags.countMismatch || decide (count.toNat < l.seen) } })).putReply
           { type := 0x13, tag := tag, code := .accepted, data := [] }).takeUp ∧
         t.tally.live.body.classes =
           s.tally.live.body.classes.modify l.figures.diameterClass (LogClass.addLog l.recovery) ∧
         s.sameBut t [.logs, .link, .tally]))

/-- A straggler expiry (R24), at a log whose expiry is pending: a CUT log becomes DRAINING with SHORT and closes when nothing is
pending (R26); a SCANNED, SAWING or DRAINING log is left as it was, whatever its counts; the expiry is pending no more. With no
expiry pending, or no log of the id, nothing changes (log entry 7). -/
def Obligations.StragglerExpiryDrainsTheLog : Prop :=
  ∀ (s : State), s.Attentive →
    (∀ id, (∀ l ∈ s.logs.queue, l.id ≠ id) → exec (.stragglerExpiry id) s = .next s) ∧
    ∀ (older : List Log) (l : Log) (younger : List Log), s.logs.queue = older ++ l :: younger →
      (∀ x ∈ older ++ younger, x.id ≠ l.id) →
      (l.timer.expiryPending = false → exec (.stragglerExpiry l.id) s = .next s) ∧
      (l.timer.expiryPending = true → l.state = .scanned ∨ l.state = .sawing ∨ l.state = .draining →
        exec (.stragglerExpiry l.id) s = .next (s.setLogs { s.logs with
          queue := older ++ { l with timer := { l.timer with expiryPending := false } } :: younger })) ∧
      (l.timer.expiryPending = true → l.state = .cut → 0 < l.pending → exec (.stragglerExpiry l.id) s =
        .next (s.setLogs { s.logs with
          queue := older ++ { l with state := .draining, flags := { l.flags with short := true },
                                     timer := { l.timer with expiryPending := false } } :: younger })) ∧
      (l.timer.expiryPending = true → l.state = .cut → l.pending = 0 → ∃ t, exec (.stragglerExpiry l.id) s = .next t ∧
        t.logs = { s.logs with queue := older ++ younger } ∧
        t.link = (s.link.queueNotice (.logRecovery { l.recovery with flags := { l.flags with short := true } })).takeUp ∧
        t.tally.live.body.classes =
          s.tally.live.body.classes.modify l.figures.diameterClass (LogClass.addLog l.recovery) ∧
        s.sameBut t [.logs, .link, .tally])

/-- Every step keeps the accounts of the open logs (R20, R22, R23, R25): at most 16 logs; each log's done count is its pieces,
chips and missed or lost boards; a CUT log awaits at least one more board of its announced count. -/
def Obligations.EveryStepKeepsLogAccounts : Prop :=
  ∀ (s t : State), s.logs.AccountsAddUp → step s = .next t → t.logs.AccountsAddUp

/-! ### Chapter 3: board scanning and profile assembly -/

/-- A head frame (R35, R36, R37): a wrong head number, a late tag and a tag without a board are discarded and counted as the
tables say; otherwise the head's two segments are written, and nothing else of the board but its CLAMPED flag. That a frame
which comes whole leaves its link hunting is the model's reading (log entry 11).

The values a head frame stores in a segment (R37): by coverage code, clamped to 191, 511 and 100, with CLAMPED raised
exactly when a value was clamped or the code was none of the three. -/
def Obligations.HeadFrameFillsItsTwoSegments : Prop :=
  (∀ (s : State) (h : Fin 11) (f : HeadFrame), s.Attentive →
     let hunting := s.setLink (s.link.setScanner (.head h) none)
     (f.head.toNat ≠ h.val → exec (.headFrame h f) s =
       .next (hunting.setScan { s.scan with badFrames := s.scan.badFrames.modify h.val fun n => min (n + 1) 65535 })) ∧
     (f.head.toNat = h.val → (∀ lug, s.scan.currentLug = some lug → BitVec.ofNat 8 lug.toNat ≠ f.tag) →
       exec (.headFrame h f) s = .next (hunting.setScan { s.scan with late := min (s.scan.late + 1) 65535 })) ∧
     ∀ lug, f.head.toNat = h.val → s.scan.currentLug = some lug → BitVec.ofNat 8 lug.toNat = f.tag →
       (s.scan.boardPresent = false → s.scan.cleared = true → exec (.headFrame h f) s = .next hunting) ∧
       (s.scan.boardPresent = false → s.scan.cleared = false → exec (.headFrame h f) s =
         .next (hunting.setScan { s.scan with eyeDisagree := min (s.scan.eyeDisagree + 1) 65535 })) ∧
       (s.scan.boardPresent = true → exec (.headFrame h f) s =
         .next ((hunting.setScan { s.scan with headsReceived := s.scan.headsReceived.set h.val true }).setTrack
           { s.track with boards := s.track.boards.map fun b => if b.lug = lug then { b with
               segments := (b.segments.set (2 * h.val)
                   (fillSegment (b.segments.getD (2 * h.val) Segment.opened) f.first).1).set (2 * h.val + 1)
                 (fillSegment (b.segments.getD (2 * h.val + 1) Segment.opened) f.second).1,
               flags := { b.flags with clamped := b.flags.clamped ||
                 (fillSegment (b.segments.getD (2 * h.val) Segment.opened) f.first).2 ||
                 (fillSegment (b.segments.getD (2 * h.val + 1) Segment.opened) f.second).2 } } else b }))) ∧
  (∀ (x : Segment) (r : RawSegment),
     (r.coverage.toNat = 0 → fillSegment x r = ({ x with coverage := .none, thickness := 0, width := 0, wane := 0 }, false)) ∧
     (3 ≤ r.coverage.toNat →
       fillSegment x r = ({ x with coverage := .unknown, thickness := 0, width := 0, wane := 0 }, true)) ∧
     (r.coverage.toNat = 1 ∨ r.coverage.toNat = 2 →
       let y := (fillSegment x r).1
       y.coverage = (if r.coverage.toNat = 1 then .part else .full) ∧
       y.thickness = min r.thickness.toNat 191 ∧ y.width = min r.width.toNat 511 ∧ y.wane = min r.wane.toNat 100 ∧
       y.defect = x.defect ∧ y.split = x.split ∧ y.grade = x.grade ∧
       ((fillSegment x r).2 = true ↔ 191 < r.thickness.toNat ∨ 511 < r.width.toNat ∨ 100 < r.wane.toNat)))

/-- Frames from different heads never touch the same segment, and the order in which heads arrive does not matter (R37): two
head frames of different links leave the same state in either order. -/
def Obligations.HeadFramesOfDifferentHeadsCommute : Prop :=
  ∀ (s : State) (h k : Fin 11) (f g : HeadFrame), s.Attentive → h ≠ k →
    ∃ t t' u, exec (.headFrame h f) s = .next t ∧ exec (.headFrame k g) t = .next u ∧
      exec (.headFrame k g) s = .next t' ∧ exec (.headFrame h f) t' = .next u

/-- A defect frame by its head number field, the vision state, its tag and its context number (R43, R44, R47). That a frame
which comes whole leaves its link hunting is the model's reading (log entry 11); the context records sent are kept in a list of the
model's own (log entry 12). -/
def Obligations.DefectFrameByVisionState : Prop :=
  ∀ (s : State) (f : DefectFrame), s.Attentive →
    let hunting := s.setLink (s.link.setScanner .vision none)
    let a := s.scan
    let here := ∃ lug, a.currentLug = some lug ∧ BitVec.ofNat 8 lug.toNat = f.tag
    (f.head ≠ 0x0B → exec (.defectFrame f) s =
      .next (hunting.setScan { a with badFrames := a.badFrames.modify 11 fun n => min (n + 1) 65535 })) ∧
    (f.head = 0x0B → a.vision = .absent → exec (.defectFrame f) s =
      .next (hunting.setScan { a with unexpected := min (a.unexpected + 1) 65535 })) ∧
    (f.head = 0x0B → a.vision = .offline → exec (.defectFrame f) s =
      .next (hunting.setScan { a with vision := .contextPending, contextsSent := a.contextsSent ++
        [{ context := a.context, species := s.solver.run.elim 0 Run.species,
           thickness := s.solver.run.elim 0 Run.thickness }] })) ∧
    (f.head = 0x0B → a.vision = .contextPending ∨ a.vision = .online →
      (here → a.boardPresent = true → f.context ≠ a.context → exec (.defectFrame f) s =
        .next (hunting.setScan { a with answered := true, stale := min (a.stale + 1) 65535 })) ∧
      (here → a.boardPresent = true → f.context = a.context → exec (.defectFrame f) s =
        .next (hunting.setScan { a with answered := true, vision := .online, held := some f })) ∧
      (¬ (here ∧ a.boardPresent = true) → f.context ≠ a.context → exec (.defectFrame f) s =
        .next (hunting.setScan { a with stale := min (a.stale + 1) 65535 })) ∧
      (here → a.boardPresent = false → a.cleared = true → f.context = a.context → exec (.defectFrame f) s =
        .next (hunting.setScan { a with vision := .online })) ∧
      (here → a.boardPresent = false → a.cleared = false → f.context = a.context → exec (.defectFrame f) s =
        .next (hunting.setScan { a with vision := .online, eyeDisagree := min (a.eyeDisagree + 1) 65535 })) ∧
      (¬ here → f.context = a.context → exec (.defectFrame f) s =
        .next (hunting.setScan { a with vision := .online, late := min (a.late + 1) 65535 })))

/-- The close of a board's window (R38, R39, R40, R45): the board goes to SOLVING with its missing heads flagged, its defects
copied or GEO_ONLY set, and its extent taken over every FULL, PARTIAL or UNKNOWN segment, or NO_SCAN set. CLAMPED follows the
scores of the frame held, FAULT or not (R44: it is used at the close).

What the close does besides: each missing head counted (R38); the vision fault reported, the vision miss counted, the module
OFFLINE at the third (R45, R46); the board attributed to the oldest SAWING log, or CUT log with room, or to none (R23); its
solve requested with reason FIRST (R53, R89, R90). The close is made at the boundary at which the lug leaves the scan line (R33). -/
def Obligations.WindowCloseSettlesTheBoard : Prop :=
  ∀ (s : State) (lug : Lug) (b : Board), s.board? lug = some b →
    let t := s.closeWindow lug
    let wood := fun k => ∃ x, b.segments[k]? = some x ∧ x.coverage ≠ .none
    let scanned := ∃ x ∈ b.segments, x.coverage = .full ∨ x.coverage = .part
    let known := ∃ f, s.scan.held = some f ∧ f.status = 0
    let watched := s.scan.vision = .contextPending ∨ s.scan.vision = .online
    let third := watched ∧ s.scan.answered = false ∧ 3 ≤ s.scan.misses + 1
    let takes := fun l : Log => (l.state = .sawing ∧ l.seen < 65535) ∨
      (l.state = .cut ∧ ∃ n, l.announced = some n ∧ l.seen < n)
    let taken := fun l : Log => if l.state = .cut ∧ l.announced = some (l.seen + 1) then
        { l with seen := l.seen + 1, pending := l.pending + 1, state := .draining,
                 timer := { l.timer with remaining := 0, running := false, expiryPending := false } }
      else { l with seen := l.seen + 1, pending := l.pending + 1 }
    let faulted := match s.scan.held with
      | some f => if f.status = 0 then s.link else s.link.queueNotice (.fault (.vision lug f.context))
      | none => s.link
    (∃ b', t.board? lug = some b' ∧ b'.state = .solving ∧
      (b'.flags.headMissing = true ↔ b.flags.headMissing = true ∨ ∃ h < 11, s.scan.headsReceived.getD h false = false) ∧
      (b'.flags.geoOnly = true ↔ b.flags.geoOnly = true ∨ ¬ known) ∧
      (∀ f, s.scan.held = some f → f.status = 0 → ∀ k x, b'.segments[k]? = some x →
        x.defect = some (min ((f.entries.getD k 0).toNat % 128) 15) ∧
          x.split = some (decide (128 ≤ (f.entries.getD k 0).toNat))) ∧
      (¬ known → b'.segments = b.segments) ∧
      (b'.flags.clamped = true ↔ b.flags.clamped = true ∨
        ∃ f, s.scan.held = some f ∧ ∃ e ∈ f.entries.take 22, 15 < e.toNat % 128) ∧
      (b'.flags.noScan = true ↔ b.flags.noScan = true ∨ ¬ scanned) ∧
      (¬ scanned → b'.extent = b.extent) ∧
      (scanned → ∃ i j, b'.extent = some (i, j) ∧ wood i ∧ wood j ∧ ∀ k, wood k → i ≤ k ∧ k ≤ j) ∧
      b'.lug = b.lug ∧ b'.override = b.override ∧ b'.assemblyRun = b.assemblyRun ∧
      (∀ older l younger, s.logs.queue = older ++ l :: younger → takes l → (∀ k ∈ older, ¬ takes k) →
        (∀ k ∈ older ++ younger, k.id ≠ l.id) →
        b'.logId = some l.id ∧ t.logs = { s.logs with queue := older ++ taken l :: younger }) ∧
      ((∀ l ∈ s.logs.queue, ¬ takes l) → b'.logId = b.logId ∧ t.logs = s.logs) ∧
      (∀ v, s.solver.inProgress = some v → (∀ e ∈ s.solver.queue, e.1 ≠ lug) → t.solver = { s.solver with
        queue := s.solver.queue ++ [(lug, .first)],
        highWater := max s.solver.highWater (s.solver.queue.length + 1) }) ∧
      (s.solver.inProgress = none → s.solver.queue = [] → t.solver.queue = [] ∧ t.solver.inProgress = some
        { lug := lug, reason := .first, input :=
            { segments := b'.segments, extent := b'.extent, geoOnly := b'.flags.geoOnly, noScan := b'.flags.noScan,
              assemblyRun := b.assemblyRun, override := b.override, run := s.solver.run, limits := s.frames.limits,
              generation := s.frames.generation, values := s.solver.values, orders := s.tally.orders } })) ∧
    (∀ h n, s.scan.headMisses[h]? = some n → t.scan.headMisses[h]? =
      some (if h < 11 ∧ s.scan.headsReceived.getD h false = false then min (n + 1) 65535 else n)) ∧
    t.scan.visionFaults = (if (s.scan.held.any fun f => f.status ≠ 0) = true then min (s.scan.visionFaults + 1) 65535
      else s.scan.visionFaults) ∧
    (¬ watched → t.scan.misses = s.scan.misses ∧ t.scan.visionMisses = s.scan.visionMisses ∧
      t.scan.vision = s.scan.vision) ∧
    (watched → s.scan.answered = true → t.scan.misses = 0 ∧ t.scan.visionMisses = s.scan.visionMisses ∧
      t.scan.vision = s.scan.vision) ∧
    (watched → s.scan.answered = false → ¬ third → t.scan.misses = s.scan.misses + 1 ∧
      t.scan.visionMisses = min (s.scan.visionMisses + 1) 65535 ∧ t.scan.vision = s.scan.vision) ∧
    (third → t.scan.misses = 0 ∧ t.scan.visionMisses = min (s.scan.visionMisses + 1) 65535 ∧ t.scan.vision = .offline ∧
      t.link = faulted.queueNotice (.fault (.visionOffline lug))) ∧
    (¬ third → t.link = faulted) ∧
    (∀ k, k ≠ lug → t.board? k = s.board? k) ∧ s.sameBut t [.logs, .scan, .track, .solver, .link] ∧
    ∀ present, s.scan.currentLug = some lug → s.scan.boardPresent = true → s.scanBoundary present = t.setScan { t.scan with
      currentLug := some s.chain.lug, boardPresent := present, cleared := false,
      headsReceived := List.replicate 11 false, held := none, answered := false }

/-- A record whose check byte is wrong is discarded and counted on its link, and so is one that a break cuts off; nothing else
changes (R189). -/
def Obligations.ScannerRecordDiscardedIsCounted : Prop :=
  ∀ (s : State) (link : ScannerLink) (content : List Byte), s.Attentive → s.link.scanners.length = 13 →
    s.link.scannerRx link = none →
    let counted := s.setLink { s.link with
      scannerFails := s.link.scannerFails.modify (scannerIndex link) fun n => min (n + 1) 65535 }
    (∀ check : Byte, check ≠ sumCheck content →
      (match link with
        | .head _ => content.length = 12
        | .vision => content.length = 26
        | .logScan => ∃ n rest, content = n :: rest ∧ rest.length = 2 * n.toNat) →
      exec (.scannerRecordDiscarded link ((0xA5#8 :: content ++ [check]).map .byte)) s = .next counted) ∧
    ((match link with
        | .head _ => content.length ≤ 12
        | .vision => content.length ≤ 26
        | .logScan => ∀ n rest, content = n :: rest → rest.length ≤ 2 * n.toNat) →
      exec (.scannerRecordDiscarded link ((0xA5#8 :: content).map .byte ++ [.framingError])) s = .next counted ∧
      exec (.scannerLinkBreak link ((0xA5#8 :: content).map .byte)) s = .next counted) ∧
    exec (.scannerLinkBreak link []) s = .next s

/-! ### Chapter 4: the Tracking Table -/

/-- The completion of a solve (R55, R56, R91): the decision, run, generation and grades are written to a board in SOLVING,
which becomes SOLVED, stays SOLVING when another request stands, or commits when its commit is due; a completion for any other
board leaves the table as it was. The board is handed to the Watch Unit at the SOLVE point, with the decision just written, before
its state is settled (R55, R172), whichever way it is settled; a commit that is due is then made as the commit event makes it for a
SOLVED board (R60). Every other board's record is as it was. The displays that show the board are refreshed, and no other station
changes (R122); a discarded completion refreshes none.

The solve in progress becomes absent, and the oldest entry's solve begins at once when the queue holds one (R90, R91), on what
the board, the run, the limits, the value table and the orders are as the completion leaves them. An entry of no board, which no run
reaches, begins none. That the transmitter looks at the end of the event is the model's choice (log entry 5). -/
def Obligations.SolveCompletionWritesTheDecision : Prop :=
  ∀ (s : State) (v : Solve), s.Attentive → s.solver.inProgress = some v →
    let more := ∃ e ∈ s.solver.queue, e.1 = v.lug
    ∃ t, exec .solveComplete s = .next t ∧ t.solver.completed = min (s.solver.completed + 1) 65535 ∧
      t.solver.queue = s.solver.queue.tail ∧ t.solver.run = s.solver.run ∧ t.solver.values = s.solver.values ∧
      t.solver.highWater = s.solver.highWater ∧ (∀ k, k ≠ v.lug → t.board? k = s.board? k) ∧
      (s.solver.queue = [] → t.solver.inProgress = none) ∧
      (∀ lug reason rest, s.solver.queue = (lug, reason) :: rest → t.solver.inProgress = (t.board? lug).map fun k =>
        { lug := lug, reason := reason, input :=
            { segments := k.segments, extent := k.extent, geoOnly := k.flags.geoOnly, noScan := k.flags.noScan,
              assemblyRun := k.assemblyRun, override := k.override, run := s.solver.run, limits := s.frames.limits,
              generation := s.frames.generation, values := s.solver.values, orders := t.tally.orders } }) ∧
      s.sameBut t [.solver, .track, .trimmer, .watch, .stationA, .stationB, .tally, .store, .link, .logs] ∧
      ((∀ b, s.board? v.lug = some b → b.state ≠ .solving) → s.sameBut t [.solver]) ∧
      ∀ b, s.board? v.lug = some b → b.state = .solving → s.DisplayedFor t v.lug ∧
        ∃ b', t.board? v.lug = some b' ∧ b'.decision = some (decisionOf v.input v.reason) ∧
          b'.runAtSolve = v.input.run.map Run.number ∧ b'.generation = some v.input.generation ∧
          b'.segments = gradeSegments v.input ∧
          (b'.flags.runStraddle = true ↔
            b.flags.runStraddle = true ∨ v.input.run.map Run.number ≠ v.input.assemblyRun) ∧
          (more → b'.state = .solving ∧ b'.commitDue = b.commitDue) ∧
          (¬ more → b.commitDue = false → b'.state = .solved) ∧
          (¬ more → b.commitDue = true → b'.commitDue = false ∧
            (b'.state = .committed ∨ (b'.state = .missed ∧ b'.flags.trimOverrun = true))) ∧
          let written := s.updateBoard v.lug fun k => { k with
            decision := some (decisionOf v.input v.reason), runAtSolve := v.input.run.map Run.number,
            generation := some v.input.generation, segments := gradeSegments v.input, flags := { k.flags with
              runStraddle := k.flags.runStraddle || decide (v.input.run.map Run.number ≠ v.input.assemblyRun) } }
          let handed := written.watchHand .solve v.lug
          let settled := handed.updateBoard v.lug fun k => { k with state := .solved, commitDue := false }
          let committed := settled.commitEvent v.lug
          (more → t.track = handed.track ∧ t.watch = handed.watch) ∧
          (¬ more → b.commitDue = false → t.board? v.lug = settled.board? v.lug ∧ t.watch = handed.watch) ∧
          (more ∨ b.commitDue = false → t.link = handed.link.takeUp ∧ t.trimmer = s.trimmer ∧ t.tally = s.tally ∧
            t.logs = s.logs) ∧
          (¬ more → b.commitDue = true → t.track = committed.track ∧ t.watch = committed.watch ∧
            t.trimmer = committed.trimmer ∧ t.tally = committed.tally ∧ t.logs = committed.logs ∧
            t.link = committed.link.takeUp)

/-- A station mark (R58, R115): the board's window opens and the station's selection moves to it. A window end: the window
closes, and a selection on the board goes to the youngest other board whose window is OPEN, else leaves the board as the last one.
Each change of a selection refreshes the station's display (R122).

The commit event (R60, R131): a SOLVED board enters the trimmer port, by the table of R131, and becomes COMMITTED, or finds both
slots full and is MISSED with TRIM_OVERRUN; a SOLVING board waits with its commit due; any other is left as it was. A decision
WAITING in the presented slot then goes on the lines when the phase is READY and the line RUNNING (R132). A commit is handed to the
Watch Unit at the COMMIT point. The displays that show the board are refreshed when it becomes COMMITTED or MISSED (R122).

The trimmer deadline (R62, R136): a SOLVING board is MISSED with NOT_COMMITTED and its request withdrawn; a COMMITTED
board whose decision the port still holds is MISSED with TRIM_DEADLINE and its decision withdrawn, by the table of R136; any other is
left as it was. Each MISSED result is counted as `TallyCountersAndBins` says a MISSED result is, and refreshes the displays that show
the board (R122).

The sort event (R64, R143): the codes go to the sorter and into the record, which is handed to the Watch Unit at the REPORT
point; then the BOARD REPORT with the final state and the codes to the notice queue, and the record is gone, as a station's last
board too, with a refresh of that station's display (R115, R122).

Every event leaves the records of the other boards as they were, and the parts of the state that its clause does not name. -/
def Obligations.LugEventsMoveTheBoard : Prop :=
  (∀ (s : State) (lug : Lug) (b : Board) (st : StationId), s.board? lug = some b →
     let window := fun w => match st with
       | .a => { b with windowA := w }
       | .b => { b with windowB := w }
     let marked := s.markEvent st lug
     let ended := s.windowEndEvent st lug
     let another := fun k : Board => k.lug ≠ lug ∧ k.window st = .isOpen
     marked.board? lug = some (window .isOpen) ∧ (∀ k, k ≠ lug → marked.board? k = s.board? k) ∧
     (marked.station st).selection = some lug ∧ (marked.station st).last = none ∧
     ({ s.station st with selection := some lug, last := none } : Station).Refreshed (marked.displayLine st) (marked.station st) ∧
     marked.station (otherStation st) = s.station (otherStation st) ∧ s.sameBut marked [.track, .stationA, .stationB] ∧
     ended.board? lug = some (window .closed) ∧ (∀ k, k ≠ lug → ended.board? k = s.board? k) ∧
     ((s.station st).selection ≠ some lug → ended.station st = s.station st) ∧
     ((s.station st).selection = some lug →
       (∀ older y younger, s.track.boards = older ++ y :: younger → another y → (∀ k ∈ younger, ¬ another k) →
         ({ s.station st with selection := some y.lug, last := none } : Station).Refreshed (ended.displayLine st)
           (ended.station st)) ∧
       ((∀ k ∈ s.track.boards, ¬ another k) →
         ({ s.station st with selection := none, last := some lug } : Station).Refreshed (ended.displayLine st)
           (ended.station st))) ∧
     ended.station (otherStation st) = s.station (otherStation st) ∧ s.sameBut ended [.track, .stationA, .stationB]) ∧
  (∀ (s : State) (lug : Lug) (b : Board), s.board? lug = some b →
     (b.state = .solving → (s.commitEvent lug).board? lug = some { b with commitDue := true } ∧
       s.sameBut (s.commitEvent lug) [.track]) ∧
     (b.state ≠ .solving → b.state ≠ .solved → s.commitEvent lug = s) ∧
     (∀ k, k ≠ lug → (s.commitEvent lug).board? k = s.board? k) ∧
     s.sameBut (s.commitEvent lug) [.track, .trimmer, .watch, .link, .stationA, .stationB, .tally, .logs] ∧
     (let go := s.trimmer.phase = .ready ∧ s.chain.line = .running
      let lit := fun (p : Trimmer) (z : Slot) => { p with
        presented := some { z with again := false }, onLines := true, phase := .on,
        lines := { saws := z.mask, tag := trimTag z.lug, dv := true }, lastTag := trimTag z.lug,
        representations := if z.again = true then min (p.representations + 1) 65535 else p.representations }
      let older := fun p q : Slot => (s.chain.lug - q.lug).toNat < (s.chain.lug - p.lug).toNat
      ∀ d, b.state = .solved → b.decision = some d →
        let x : Slot := { lug := lug, mask := d.mask, again := false }
        let t := s.commitEvent lug
        (s.trimmer.presented = none → s.trimmer.staged = none →
          t.trimmer = if go then lit s.trimmer x else { s.trimmer with presented := some x, onLines := false }) ∧
        (∀ y, s.trimmer.presented = some y → s.trimmer.staged = none →
          (s.trimmer.onLines = true → t.trimmer = { s.trimmer with staged := some x }) ∧
          (s.trimmer.onLines = false → ¬ older x y → t.trimmer = if go then lit { s.trimmer with staged := some x } y
            else { s.trimmer with staged := some x }) ∧
          (s.trimmer.onLines = false → older x y → t.trimmer = if go then lit { s.trimmer with staged := some y } x
            else { s.trimmer with presented := some x, staged := some y })) ∧
        (∀ y, s.trimmer.presented = some y → s.trimmer.staged.isSome = true →
          (s.trimmer.onLines = true ∨ ¬ go →
            t.trimmer = { s.trimmer with overruns := min (s.trimmer.overruns + 1) 65535 }) ∧
          t.tally = (s.boardResult b .missed).tally ∧ t.logs = (s.boardResult b .missed).logs)) ∧
     ∀ d, b.state = .solved → b.decision = some d →
       (s.trimmer.presented = none ∨ s.trimmer.staged = none →
         ∃ b', (s.commitEvent lug).board? lug = some b' ∧ b'.state = .committed ∧ b'.commitDue = false ∧
           b'.decision = some d ∧
           ∃ x, (x.lug = lug ∧ x.mask = d.mask) ∧
             ((s.commitEvent lug).trimmer.presented = some x ∨ (s.commitEvent lug).trimmer.staged = some x) ∧
             ∃ u : State, s.commitEvent lug = u.watchHand .commit lug ∧ u.watch = s.watch ∧
               u.board? lug = some { b with state := .committed, commitDue := false } ∧
               s.sameBut u [.track, .trimmer, .stationA, .stationB] ∧
               s.sameBut (s.commitEvent lug) [.track, .trimmer, .watch, .link, .stationA, .stationB]) ∧
       (s.trimmer.presented.isSome = true → s.trimmer.staged.isSome = true →
         ∃ b', (s.commitEvent lug).board? lug = some b' ∧ b'.state = .missed ∧ b'.flags.trimOverrun = true ∧
           b'.commitDue = false ∧ (s.commitEvent lug).trimmer.overruns = min (s.trimmer.overruns + 1) 65535 ∧
           ∃ u : State, s.commitEvent lug = u.watchHand .commit lug ∧ u.watch = s.watch ∧
             u.board? lug = some { b with
               state := .missed, commitDue := false, flags := { b.flags with trimOverrun := true } } ∧
             s.sameBut u [.track, .trimmer, .stationA, .stationB, .tally, .logs, .link]) ∧
       s.RefreshedFor (s.commitEvent lug) lug ∧ (∀ k, k ≠ lug → (s.commitEvent lug).board? k = s.board? k) ∧
       s.sameBut (s.commitEvent lug) [.track, .trimmer, .watch, .link, .stationA, .stationB, .tally, .logs]) ∧
  (∀ (s : State) (lug : Lug) (b : Board), s.board? lug = some b →
     (b.state = .solving → ∃ b', (s.deadlineEvent lug).board? lug = some b' ∧ b'.state = .missed ∧
       b'.flags.notCommitted = true ∧ b'.commitDue = false ∧ b'.decision = b.decision ∧
       (s.deadlineEvent lug).track.notCommitted = min (s.track.notCommitted + 1) 65535 ∧
       (s.deadlineEvent lug).solver = { s.solver with queue := s.solver.queue.filter fun e => e.1 ≠ lug }) ∧
     (b.state = .committed → (s.trimmer.presented.map Slot.lug = some lug ∨ s.trimmer.staged.map Slot.lug = some lug) →
       s.trimmer.presented.map Slot.lug ≠ s.trimmer.staged.map Slot.lug →
       ∃ b', (s.deadlineEvent lug).board? lug = some b' ∧ b'.state = .missed ∧ b'.flags.trimDeadline = true ∧
         (s.deadlineEvent lug).trimmer.presented.map Slot.lug ≠ some lug ∧
         (s.deadlineEvent lug).trimmer.staged.map Slot.lug ≠ some lug ∧
         (s.deadlineEvent lug).trimmer.deadlines = min (s.trimmer.deadlines + 1) 65535) ∧
     (b.state ≠ .solving → b.state ≠ .committed → s.deadlineEvent lug = s) ∧
     (b.state = .committed → s.trimmer.presented.map Slot.lug ≠ some lug → s.trimmer.staged.map Slot.lug ≠ some lug →
       s.deadlineEvent lug = s) ∧
     (∀ k, k ≠ lug → (s.deadlineEvent lug).board? k = s.board? k) ∧
     (b.state = .solving → s.RefreshedFor (s.deadlineEvent lug) lug ∧
       s.sameBut (s.deadlineEvent lug) [.track, .solver, .stationA, .stationB, .tally, .logs, .link]) ∧
     (b.state = .committed → (s.trimmer.presented.map Slot.lug = some lug ∨ s.trimmer.staged.map Slot.lug = some lug) →
       s.RefreshedFor (s.deadlineEvent lug) lug ∧
       s.sameBut (s.deadlineEvent lug) [.track, .trimmer, .stationA, .stationB, .tally, .logs, .link]) ∧
     (let t := s.deadlineEvent lug
      let x := s.trimmer
      let up := { x with presented := x.staged, staged := none, onLines := false, deadlines := min (x.deadlines + 1) 65535 }
      let shown := fun p : Trimmer => match p.presented with
        | none => p
        | some z => if p.phase = .ready ∧ s.chain.line = .running then { p with
            presented := some { z with again := false }, onLines := true, phase := .on,
            lines := { saws := z.mask, tag := trimTag z.lug, dv := true }, lastTag := trimTag z.lug,
            representations := if z.again = true then min (p.representations + 1) 65535 else p.representations } else p
      let counted := t.tally = (s.boardResult b .missed).tally ∧ t.logs = (s.boardResult b .missed).logs ∧
        t.link = (s.boardResult b .missed).link
      (b.state = .solving → counted ∧ t.trimmer = x) ∧
      (b.state = .committed → x.presented.map Slot.lug = some lug → x.onLines = true → counted ∧
        t.trimmer = shown { up with
          lines := { saws := 0, tag := 0, dv := false }, phase := if x.mode = .interlocked then .ready else .recovering }) ∧
      (b.state = .committed → x.presented.map Slot.lug = some lug → x.onLines = false → counted ∧ t.trimmer = shown up) ∧
      (b.state = .committed → x.presented.map Slot.lug ≠ some lug → x.staged.map Slot.lug = some lug → counted ∧
        t.trimmer = { x with staged := none, deadlines := min (x.deadlines + 1) 65535 }))) ∧
  (∀ (s : State) (lug : Lug) (b : Board), s.board? lug = some b → b.state = .accepted ∨ b.state = .missed →
     (∀ w ∈ s.watch.slots, w.state ≠ .armed) →
     let t := s.sortEvent lug
     let codes := s.sorter.codes b.state b.decision
     t.track.boards = s.track.boards.filter (fun k => k.lug ≠ lug) ∧
       t.link = s.link.queueNotice (.boardReport {
         lug := lug, logId := b.logId, runAtSolve := b.runAtSolve, final := b.state, decision := b.decision, sort := codes,
         override := b.override, flags := b.flags, dropped := 0 }) ∧
       t.sorter = s.sorter.deliver codes s.trimmer.width ∧ s.sameBut t [.track, .link, .sorter, .stationA, .stationB]) ∧
  ∀ (s : State) (lug : Lug) (b : Board), s.board? lug = some b → b.state = .accepted ∨ b.state = .missed →
    let t := s.sortEvent lug
    let codes := s.sorter.codes b.state b.decision
    let handed := ((s.setSorter (s.sorter.deliver codes s.trimmer.width)).setTrack { s.track with
      boards := s.track.boards.map fun k => if k.lug = lug then { k with sort := some codes } else k }).watchHand .report lug
    t.watch = handed.watch ∧ t.board? lug = none ∧ (∀ k, k ≠ lug → t.board? k = s.board? k) ∧
      t.link = handed.link.queueNotice (.boardReport {
        lug := lug, logId := b.logId, runAtSolve := b.runAtSolve, final := b.state, decision := b.decision, sort := codes,
        override := b.override, flags := b.flags, dropped := 0 }) ∧
      (∀ st, ((s.station st).last ≠ some lug → t.station st = s.station st) ∧
        ((s.station st).last = some lug →
          ({ s.station st with last := none } : Station).Refreshed (t.displayLine st) (t.station st))) ∧
      s.sameBut t [.track, .link, .sorter, .watch, .stationA, .stationB]

/-- CLEAR LINE (R67, R28, R48, R92, R139): every board without a result is counted LOST, in the tally and in the log it is
attributed to; the table, the solve queue, the trimmer's slots and both selections are empty; the rest of the line's state is
kept.

The logs (R25, R28): each log's pending falls and its done and missed+lost counts rise by its lost boards; a DRAINING log whose
pending reaches 0 closes, with its recovery record in the log tally and its LOG RECOVERY notice; every other log, the next log id
and the counts are kept. A log that has fewer boards pending than it loses, which no run reaches, counts no more than closes it.

The trimmer port (R139): the lines drop; the mode, the width and the counts are kept; the phase is kept, but a presentation cut
short leaves READY in INTERLOCKED mode and begins the gap in PULSED mode. That the transmitter looks at the end of
the event, and so sends the reply before the notices, is the model's choice (log entry 5). -/
def Obligations.ClearLineLosesEveryBoard : Prop :=
  ∀ (s : State) (tag : Byte), s.CanAnswer → (s.track.boards.map Board.lug).Nodup →
    let lost := s.track.boards.filter fun b => b.state ≠ .accepted ∧ b.state ≠ .missed
    ∃ t, exec (.clearLine tag []) s = .next t ∧
      t.track = { s.track with boards := [] } ∧
      t.tally.live.body.lost = (Counter.add8 1)^[lost.length] s.tally.live.body.lost ∧
      t.tally.live.body.bins = s.tally.live.body.bins ∧ t.tally.live.body.chips = s.tally.live.body.chips ∧
      t.tally.live.body.missed = s.tally.live.body.missed ∧ t.tally.orders = s.tally.orders ∧
      t.tally.live.body.overflow = s.tally.live.body.overflow ∧ t.tally.period = s.tally.period ∧
      t.tally.accepted = s.tally.accepted ∧ t.tally.interval = s.tally.interval ∧
      t.solver = { s.solver with queue := [] } ∧
      t.trimmer = { s.trimmer with
        presented := none, staged := none, onLines := false, lines := { saws := 0, tag := 0, dv := false },
        phase := if s.trimmer.onLines = false then s.trimmer.phase
          else if s.trimmer.mode = .interlocked then .ready else .recovering } ∧
      (∀ st, (t.station st).selection = none ∧ (t.station st).last = none ∧
        ({ s.station st with selection := none, last := none } : Station).Shows
          { board := none, holds := (s.frames.ownedBy st).map fun h => (h.code, h.ceiling) } (t.station st)) ∧
      t.scan = { s.scan with
        boardPresent := false, cleared := s.scan.cleared || s.scan.boardPresent,
        headsReceived := List.replicate 11 false, held := none, answered := false } ∧
      t.link.replies = s.link.replies ++ [{ type := 0x1B, tag := tag, code := .accepted, data := [] }] ∧
      s.sameBut t [.track, .tally, .logs, .solver, .trimmer, .stationA, .stationB, .scan, .link] ∧
      ((s.logs.queue.map Log.id).Nodup →
        let losses := fun l : Log => (lost.filter fun b => b.logId = some l.id).length
        let closes := fun l : Log => l.state = .draining ∧ 0 < losses l ∧ l.pending ≤ losses l
        let counted := fun (n : Nat) (l : Log) => { l with
          pending := l.pending - n, doneCount := l.doneCount + n, missedLost := l.missedLost + n }
        t.logs = { s.logs with
          queue := (s.logs.queue.filter fun l => decide (¬ closes l)).map fun l => counted (losses l) l } ∧
        ∃ closed : List Log, closed.Perm ((s.logs.queue.filter fun l => decide (closes l)).map fun l =>
            counted (max 1 l.pending) l) ∧
          t.tally.live.body.classes = closed.foldl (fun classes l =>
            classes.modify l.figures.diameterClass (LogClass.addLog l.recovery)) s.tally.live.body.classes ∧
          t.link = ((closed.foldl (fun k l => k.queueNotice (.logRecovery l.recovery)) s.link.frameIn).putReply
            { type := 0x1B, tag := tag, code := .accepted, data := [] }).takeUp ∧
          ((∀ l ∈ s.logs.queue, losses l ≤ l.pending) → t.tally.live.body.unattributed =
            (Account.count1 0)^[(lost.filter fun b => !(s.logs.queue.any fun l => b.logId = some l.id)).length]
              s.tally.live.body.unattributed))

/-! ### Chapter 5: grade rules and the frame chain -/

/-- SET BASE RULES (R75, R71): refused while a run is open; else the clamped values become the BASE frame at one step of the
generation number, answered ACCEPTED_CLAMPED when any was clamped. -/
def Obligations.SetBaseRulesClampsAndCounts : Prop :=
  ∀ (s : State) (tag : Byte) (body : List Byte), s.CanAnswer → body.length = 27 →
    let values := body.map BitVec.toNat
    let greatest := [191, 191, 191, 191, 191, 100, 100, 100, 100, 100, 15, 15, 15, 15, 15, 1, 1, 1, 1, 1, 50, 50, 50, 50, 50,
                     5, 5]
    let least := List.replicate 25 0 ++ [1, 1]
    let taken := List.zipWith max least (List.zipWith min values greatest)
    (s.solver.run.isSome = true → exec (.setBaseRules tag body) s =
      .next (s.setLink (s.link.answered 0x03 tag .runOpen []))) ∧
    (s.solver.run = none → exec (.setBaseRules tag body) s =
      .next ((s.setFrames { s.frames with base := taken, generation := s.frames.generation + 1 }).setLink
        (s.link.answered 0x03 tag (if taken = values then .accepted else .acceptedClamped) [])))

/-- OPEN RUN with no run open (R93, R94, R77, R42): the run record, the emptied or kept value table, the RUN frame with its
clamped entries, one step of the generation number, the ARMED LOCAL watch slots DISARMED (R176), and the reply; a request with a
field out of its range is refused whole, with or without a run open.

OPEN RUN with a run open (R94 step 1, R95, R76, R42): the open run is closed first, with every effect but the reply, so that the
HOLD frames go with their notices, oldest first, and two context records are sent; then the new run is opened (that the
transmitter looks at the end of the event, log entry 5). -/
def Obligations.OpenRunPlacesTheRunFrame : Prop :=
  ∀ (s : State) (tag : Byte) (body : List Byte), s.CanAnswer →
    let byte := fun n => (body.getD n 0).toNat
    let k := byte 4
    let e := byte (6 + 3 * k)
    body.length = 7 + 3 * k + 2 * e →
    let number := 256 * byte 0 + byte 1
    let classes := (List.range k).map fun n => (byte (5 + 3 * n), 256 * byte (6 + 3 * n) + byte (7 + 3 * n))
    let keep := byte (5 + 3 * k)
    let carried := (List.range e).map fun n => (byte (7 + 3 * k + 2 * n), byte (8 + 3 * k + 2 * n))
    let good := 1 ≤ number ∧ byte 2 ≤ 15 ∧ 1 ≤ byte 3 ∧ byte 3 ≤ 4 ∧ 1 ≤ k ∧ k ≤ 5 ∧
      (∀ c ∈ classes, c.1 % 2 = 0 ∧ 2 ≤ c.1 ∧ c.1 ≤ 16 ∧ c.2 ≤ 511) ∧ (classes.map Prod.snd).Pairwise (· < ·) ∧ keep ≤ 1 ∧
      e ≤ 16 ∧ (∀ x ∈ carried, x.1 ≤ 26) ∧ (carried.map Prod.fst).Nodup
    let run : Run := { number := number, species := byte 2, thickness := byte 3, classes := classes }
    let greatest := [191, 191, 191, 191, 191, 100, 100, 100, 100, 100, 15, 15, 15, 15, 15, 1, 1, 1, 1, 1, 50, 50, 50, 50, 50,
                     5, 5]
    let entries := carried.map fun x => (x.1, max (if x.1 < 25 then 0 else 1) (min x.2 (greatest.getD x.1 0)))
    (¬ good → exec (.openRun tag body) s = .next (s.setLink (s.link.answered 0x05 tag .outOfRange []))) ∧
    (good → s.solver.run = none → ∃ t, exec (.openRun tag body) s = .next t ∧
      t.solver = { s.solver with
        run := some run,
        values := if keep = 1 then s.solver.values else List.replicate 200 { state := .absent, value := 0 } } ∧
      t.frames = { s.frames with
        run := some entries, generation := s.frames.generation + 1 } ∧
      t.link = s.link.answered 0x05 tag
        (if entries = carried then .accepted else .acceptedClamped) [] ∧
      (s.scan.vision = .absent → t.scan = s.scan) ∧
      (s.scan.vision ≠ .absent → t.scan = { s.scan with
        context := s.scan.context + 1, vision := .contextPending, misses := 0,
        contextsSent := s.scan.contextsSent ++
          [{ context := s.scan.context + 1, species := byte 2, thickness := byte 3 }] }) ∧
      t.watch = { s.watch with slots := s.watch.slots.map fun w =>
        if w.state = .armed ∧ w.program.map WatchProgram.scope = some .localRun then { w with state := .disarmed } else w } ∧
      s.sameBut t [.solver, .frames, .scan, .watch, .link]) ∧
    (good → s.solver.run.isSome = true → ∃ t, exec (.openRun tag body) s = .next t ∧
      t.solver = { s.solver with
        run := some run,
        values := if keep = 1 then s.solver.values else List.replicate 200 { state := .absent, value := 0 } } ∧
      t.frames = { s.frames with
        run := some entries, holds := [],
        generation := s.frames.generation + BitVec.ofNat 16 s.frames.holds.length + 2 } ∧
      t.link = ((s.frames.holds.zipIdx.foldl (fun l p => l.queueNotice (.hold .runClosed p.1.owner p.1.code p.1.ceiling
          p.1.timer.reload p.1.timer.remaining s.chain.lug (s.frames.generation + BitVec.ofNat 16 (p.2 + 1))))
          s.link.frameIn).putReply
          { type := 0x05, tag := tag, code := if entries = carried then .accepted else .acceptedClamped, data := [] }).takeUp ∧
      (s.scan.vision = .absent → t.scan = s.scan) ∧
      (s.scan.vision ≠ .absent → t.scan = { s.scan with
        context := s.scan.context + 2, vision := .contextPending, misses := 0,
        contextsSent := s.scan.contextsSent ++ [{ context := s.scan.context + 1, species := 0, thickness := 0 },
          { context := s.scan.context + 2, species := byte 2, thickness := byte 3 }] }) ∧
      t.watch = { s.watch with slots := s.watch.slots.map fun w =>
        if w.state = .armed ∧ w.program.map WatchProgram.scope = some .localRun then { w with state := .disarmed } else w } ∧
      (∀ st, ((∃ h ∈ s.frames.holds, h.owner = st) → (s.station st).Shows (t.displayLine st) (t.station st)) ∧
        ((∀ h ∈ s.frames.holds, h.owner ≠ st) → t.station st = s.station st)) ∧
      s.sameBut t [.solver, .frames, .scan, .watch, .link, .stationA, .stationB])

/-- CLOSE RUN (R95, R76, R83): refused with no run open; else the HOLD frames and the RUN frame go, each one step of the
generation number, each HOLD frame with its notice, oldest first, and the value table is kept. Every ARMED
LOCAL watch slot becomes DISARMED (R176). That the transmitter looks at the end of the event is the model's choice (log entry 5). -/
def Obligations.CloseRunRemovesTheFrames : Prop :=
  ∀ (s : State) (tag : Byte), s.CanAnswer →
    (s.solver.run = none → exec (.closeRun tag []) s = .next (s.setLink (s.link.answered 0x06 tag .noRun []))) ∧
    (s.solver.run.isSome = true → ∃ t, exec (.closeRun tag []) s = .next t ∧
      t.solver = { s.solver with run := none } ∧ t.frames.run = none ∧ t.frames.holds = [] ∧
      t.frames.base = s.frames.base ∧ t.frames.nextCode = s.frames.nextCode ∧
      t.frames.generation = s.frames.generation + BitVec.ofNat 16 s.frames.holds.length + 1 ∧
      t.link.replies = s.link.replies ++ [{ type := 0x06, tag := tag, code := .accepted, data := [] }] ∧
      t.link = ((s.frames.holds.zipIdx.foldl (fun l p => l.queueNotice (.hold .runClosed p.1.owner p.1.code p.1.ceiling
          p.1.timer.reload p.1.timer.remaining s.chain.lug (s.frames.generation + BitVec.ofNat 16 (p.2 + 1))))
          s.link.frameIn).putReply { type := 0x06, tag := tag, code := .accepted, data := [] }).takeUp ∧
      (s.scan.vision = .absent → t.scan = s.scan) ∧
      (s.scan.vision ≠ .absent → t.scan = { s.scan with
        context := s.scan.context + 1, vision := .contextPending, misses := 0,
        contextsSent := s.scan.contextsSent ++
          [{ context := s.scan.context + 1, species := 0, thickness := 0 }] }) ∧
      t.watch = { s.watch with slots := s.watch.slots.map fun w =>
        if w.state = .armed ∧ w.program.map WatchProgram.scope = some .localRun then { w with state := .disarmed } else w } ∧
      (∀ st, ((∃ h ∈ s.frames.holds, h.owner = st) → (s.station st).Shows (t.displayLine st) (t.station st)) ∧
        ((∀ h ∈ s.frames.holds, h.owner ≠ st) → t.station st = s.station st)) ∧
      s.sameBut t [.solver, .frames, .scan, .watch, .link, .stationA, .stationB])

/-- The effective value of a limit is the newest frame's that defines it (R73): the newest HOLD frame for CEILING, whichever
station owns it, else the RUN frame's entry, else BASE.

A solve takes the 27 effective values and the generation number as it begins, keeps them through every frame created, removed or
changed after that, and writes its decision from them and its generation into the board's record at its completion (R73). -/
def Obligations.NewestFrameGivesTheLimit : Prop :=
  (∀ (f : Frames) (n : Nat), n < 27 →
     let value := f.limits.getD n 0
     (∀ older h, n = 25 → f.holds = older ++ [h] → value = h.ceiling) ∧
     (∀ entries v, n ≠ 25 ∨ f.holds = [] → f.run = some entries → (entries.map Prod.fst).Nodup → (n, v) ∈ entries →
       value = v) ∧
     (n ≠ 25 ∨ f.holds = [] → (∀ entries, f.run = some entries → n ∉ entries.map Prod.fst) → value = f.base.getD n 0)) ∧
  (∀ (s : State) (lug : Lug) (reason : Reason) (rest : List (Lug × Reason)) (b : Board), s.solver.inProgress = none →
     s.solver.queue = (lug, reason) :: rest → s.board? lug = some b →
     ∃ v, s.beginSolve.solver.inProgress = some v ∧ v.lug = lug ∧ v.reason = reason ∧ v.input.limits.length = 27 ∧
       (∀ n, n < 27 → v.input.limits.getD n 0 = s.frames.limits.getD n 0) ∧ v.input.generation = s.frames.generation) ∧
  (∀ (s : State) (v : Solve) (st : StationId) (g n : Nat) (tag : Byte) (body : List Byte), s.solver.inProgress = some v →
     ∀ c ∈ [Instr.openRun tag body, .closeRun tag body, .setBaseRules tag body, .holdKey st g n, .cancelHoldKey st,
         .holdExpiry n],
       ∃ t, exec c s = .next t ∧ t.solver.inProgress = some v) ∧
  ∀ (s : State) (v : Solve) (b : Board), s.Attentive → s.solver.inProgress = some v → s.board? v.lug = some b →
    b.state = .solving → ∃ t b', exec .solveComplete s = .next t ∧ t.board? v.lug = some b' ∧
      b'.generation = some v.input.generation ∧ b'.decision = some (decisionOf v.input v.reason)

/-- The HOLD key (R123, R78, R79, R80): refused without a run or with two holds; else a new HOLD frame under the next code,
running from n clamped to 1 to 999; or, on a ceiling the station holds already, a retrigger. A creation and a retrigger under
RELOAD are answered OK and then refresh the station's display (R114, R122, R123); the other answers refresh none (under IGNORE log
entry 48), and the other station is left as it was.

The creation asks for re-solves (R80, R54): every SOLVED board short of the station's mark becomes SOLVING and is requested with
reason HOLD, oldest first; the first begins at once in an idle solver, under the new frame (R90). The high-water mark is raised to
the greatest length the queue came to (R89). -/
def Obligations.HoldKeyCreatesOrRetriggers : Prop :=
  ∀ (s : State) (st : StationId) (g n : Nat), s.Attentive → (s.station st).lineCount < 8 →
    (s.station st).buffer = [] → (s.station st).discard = false → 1 ≤ g → g ≤ 5 → n ≤ 99999 →
    let owned := s.frames.holds.filter fun h => h.owner = st
    let life := max 1 (min n 999)
    ∃ t, exec (.holdKey st g n) s = .next t ∧
      (t.station st).records = min ((s.station st).records + 1) 65535 ∧
      s.sameBut t [.frames, .link, .solver, .track, .stationA, .stationB] ∧
      t.station (otherStation st) = s.station (otherStation st) ∧
      ((∀ h ∈ owned, h.ceiling ≠ g) → s.frames.run = none →
        t.station st = { (s.station st).replied .noRun with sending := true } ∧ s.sameBut t [.stationA, .stationB]) ∧
      ((∀ h ∈ owned, h.ceiling ≠ g) → s.frames.run.isSome = true → 2 ≤ owned.length →
        t.station st = { (s.station st).replied .noHoldFull with sending := true } ∧ s.sameBut t [.stationA, .stationB]) ∧
      ((∀ h ∈ owned, h.ceiling ≠ g) → s.frames.run.isSome = true → owned.length < 2 →
        ((s.station st).replied .ok).Shows (t.displayLine st) (t.station st) ∧
        t.frames = { s.frames with
          holds := s.frames.holds ++ [{ owner := st, ceiling := g, code := s.frames.nextCode, timer :=
            { reload := life, remaining := life, running := true, retrigger := (s.station st).retrigger,
              expiryPending := false } }],
          nextCode := if s.frames.nextCode < 255 then s.frames.nextCode + 1 else 1,
          generation := s.frames.generation + 1 } ∧
        t.link = (s.link.queueNotice (.hold .created st s.frames.nextCode g life life s.chain.lug
          (s.frames.generation + 1))).takeUp ∧
        ((s.track.boards.map Board.lug).Nodup →
          let mark := match st with
            | .a => s.chain.config.markA
            | .b => s.chain.config.markB
          let named := s.track.boards.filter fun b => b.state = .solved ∧ (s.chain.lug - b.lug).toNat < mark
          let solving := fun b : Board => if b.state = .solved ∧ (s.chain.lug - b.lug).toNat < mark then
            { b with state := .solving } else b
          t.track = { s.track with boards := s.track.boards.map solving } ∧
          (named = [] → t.solver = s.solver) ∧
          (∀ v, s.solver.inProgress = some v → named ≠ [] → (∀ e ∈ s.solver.queue, ∀ b ∈ named, e.1 ≠ b.lug) →
            t.solver = { s.solver with
              queue := s.solver.queue ++ named.map fun b => (b.lug, .hold),
              highWater := max s.solver.highWater (s.solver.queue.length + named.length) }) ∧
          ∀ b rest, s.solver.inProgress = none → s.solver.queue = [] → named = b :: rest →
            t.frames.limits.getD 25 0 = g ∧ t.solver = { s.solver with
              queue := rest.map fun b => (b.lug, .hold), highWater := max s.solver.highWater (max 1 rest.length),
              inProgress := some { lug := b.lug, reason := .hold, input :=
                { segments := b.segments, extent := b.extent, geoOnly := b.flags.geoOnly, noScan := b.flags.noScan,
                  assemblyRun := b.assemblyRun, override := b.override, run := s.solver.run, limits := t.frames.limits,
                  generation := s.frames.generation + 1, values := s.solver.values, orders := s.tally.orders } } })) ∧
      (∀ older h younger, s.frames.holds = older ++ h :: younger → h.owner = st → h.ceiling = g →
        (∀ x ∈ older, x.owner = st → x.ceiling ≠ g) → h ∉ younger → h ∉ older →
        s.sameBut t [.frames, .stationA, .stationB] ∧
        (h.timer.retrigger = .ignore → t.frames = s.frames ∧
          t.station st = { (s.station st).replied .noHoldActive with sending := true }) ∧
        (h.timer.retrigger = .reload → ((s.station st).replied .ok).Shows (t.displayLine st) (t.station st) ∧
          t.frames = { s.frames with holds := older ++ { h with
            timer := { h.timer with reload := life, remaining := life, running := true } } :: younger }))

/-- A HOLD frame leaves the chain by the cancel key, its station's newest (R82, R125), or by its expiry, from wherever it
stands (R81): one step of the generation number and its notice; the other frames keep their order. The expiry's command names
its frame by the code (log entry 9). The owner's display is refreshed, after the reply OK of a cancel key (R114, R122, R125), and
the other station is left as it was.

A cancel key of a station that owns no HOLD frame is answered NO NO HOLD and changes nothing but the station's queue and count, with
a run open or none (R82, R125). -/
def Obligations.HoldFrameLeavesTheChain : Prop :=
  (∀ (s : State) (older : List Hold) (h : Hold) (younger : List Hold), s.Attentive →
     s.frames.holds = older ++ h :: younger → h ∉ older →
     let left : Frames := { s.frames with holds := older ++ younger, generation := s.frames.generation + 1 }
     ((s.station h.owner).lineCount < 8 → (s.station h.owner).buffer = [] → (s.station h.owner).discard = false →
       (∀ x ∈ younger, x.owner ≠ h.owner) → ∃ t, exec (.cancelHoldKey h.owner) s = .next t ∧ t.frames = left ∧
         ((s.station h.owner).replied .ok).Shows (t.displayLine h.owner) (t.station h.owner) ∧
         t.station (otherStation h.owner) = s.station (otherStation h.owner) ∧
         t.link = (s.link.queueNotice (.hold .cancelled h.owner h.code h.ceiling h.timer.reload h.timer.remaining s.chain.lug
           (s.frames.generation + 1))).takeUp ∧
         s.sameBut t [.frames, .link, .stationA, .stationB]) ∧
     (h.timer.expiryPending = true → (∀ x ∈ older, x.code ≠ h.code) → ∃ t, exec (.holdExpiry h.code) s = .next t ∧
       t.frames = left ∧ (s.station h.owner).Shows (t.displayLine h.owner) (t.station h.owner) ∧
       t.station (otherStation h.owner) = s.station (otherStation h.owner) ∧
       t.link = (s.link.queueNotice (.hold .expired h.owner h.code h.ceiling h.timer.reload 0 s.chain.lug
         (s.frames.generation + 1))).takeUp ∧
       s.sameBut t [.frames, .link, .stationA, .stationB])) ∧
  ∀ (s : State) (st : StationId), s.Attentive → (s.station st).lineCount < 8 → (s.station st).buffer = [] →
    (s.station st).discard = false → (∀ h ∈ s.frames.holds, h.owner ≠ st) →
    let x := s.station st
    exec (.cancelHoldKey st) s = .next (s.setStation st { x with
      records := min (x.records + 1) 65535, output := x.output ++ [.reply .noNoHold], sending := true })

/-- Every step keeps the frame chain's shape (R72, R78): BASE with 27 values, HOLD frames only while a RUN frame exists, at most
two for each station, codes 1 to 255, a RUN frame exactly while a run is open. -/
def Obligations.EveryStepKeepsTheFrameChain : Prop :=
  ∀ (s t : State), s.FrameChainOk → step s = .next t → t.FrameChainOk

/-! ### Chapter 6: the trim solver -/

/-- The grade of a FULL segment (R84, R85): the smallest grade whose limits it meets, else 6; from geometry alone no better
than GEOCAP; any other segment has none. Width is not graded. Every segment of a solve is graded by the limits it took, all from
geometry alone or none.

The saw mask (R103): saws p and q of a PIECE, no saw between them, and outside them the saws that stand over wood; of a
CHIP the saws over wood, or all 11 with no extent on a NO_SCAN board. -/
def Obligations.SegmentGradesAndSawMask : Prop :=
  (∀ (limits : List Nat) (x : Segment),
     let geometry := fun g => limits.getD (g - 1) 0 ≤ x.thickness ∧ x.wane ≤ limits.getD (4 + g) 0
     let defects := fun g => x.defect.getD 0 ≤ limits.getD (9 + g) 0 ∧ (x.split = some true → limits.getD (14 + g) 0 ≠ 0)
     (x.coverage ≠ .full → ∀ geo, segmentGrade limits geo x = none) ∧
     (x.coverage = .full → ∀ g, 1 ≤ g → g ≤ 5 →
       (segmentGrade limits false x = some g ↔
         (geometry g ∧ defects g) ∧ ∀ k, 1 ≤ k → k < g → ¬ (geometry k ∧ defects k)) ∧
       (geometry g → (∀ k, 1 ≤ k → k < g → ¬ geometry k) →
         segmentGrade limits true x = some (max g (limits.getD 26 1)))) ∧
     (x.coverage = .full → (∀ g, 1 ≤ g → g ≤ 5 → ¬ (geometry g ∧ defects g)) → segmentGrade limits false x = some 6) ∧
     (x.coverage = .full → (∀ g, 1 ≤ g → g ≤ 5 → ¬ geometry g) → segmentGrade limits true x = some 6) ∧
     (∀ geo w, segmentGrade limits geo { x with width := w } = segmentGrade limits geo x)) ∧
  (∀ (i : SolveInput) (k : Nat) (x : Segment), i.segments[k]? = some x →
     (gradeSegments i)[k]? = some { x with grade := segmentGrade i.limits i.geoOnly x }) ∧
  (∀ (i : SolveInput) (r : Reason) (k : Nat), k < 11 →
     let wood := fun k => ∃ a b, i.extent = some (a, b) ∧ a < 2 * k ∧ 2 * k ≤ b
     let d := decisionOf i r
     (i.noScan = true → d.piece = none ∧ d.mask.getLsbD k = true) ∧
     (i.noScan = false → d.piece = none → (d.mask.getLsbD k = true ↔ wood k)) ∧
     ∀ x, d.piece = some x → (d.mask.getLsbD k = true ↔ k = x.p ∨ k = x.q ∨ ((k < x.p ∨ x.q < k) ∧ wood k)))

/-- A PIECE that the solver chose without a trim mark (R97, R99, R100, R102): whole FULL wood without cull, at least 6 ft, no
better than CEILING, GEOCAP on a geometry-only board, or the grader's mark, at a PRESENT price, with a score above 0.

It is one of the eligible trims, at its raw grade held to the ceilings and its own score, under no FILLED order that excludes it,
and the best of them (R97 to R102): no other has a higher score, nor at the same score a greater length, nor at that a better
grade, nor at that a smaller p. A board that goes to the solver's own choice and is chipped has no eligible trim with a score above 0.
Its flags are those gathered from the trims on whole wood (R100), with ORDER_DISCOUNT for a chosen score discounted (R102; at a
discount of 100, log entry 38).

The other paths (R96, R109): NO_SCAN, no run and the chip mark give a CHIP; a trim mark over wood that is not all FULL is set
aside; over FULL wood it is a PIECE of its p and q, in class 1 when too narrow for any, of grade 6 over cull, with the score and the
flag that the tables give. -/
def Obligations.ChosenPieceIsSound : Prop :=
  (∀ (i : SolveInput) (r : Reason) (run : Run), i.run = some run → i.noScan = false →
     (∀ o, i.override = some o → o.trim = none ∧ o.chip = false) →
     let d := decisionOf i r
     (∀ x, d.piece = some x → i.Offers run x.p x.q x.key.grade x.key.widthClass d.score ∧
       x.width = (run.classes.getD (x.key.widthClass - 1) (0, 0)).1 ∧
       ∀ p q g c n, i.Offers run p q g c n → n < d.score ∨ (n = d.score ∧ (2 * (q - p) < x.key.length ∨
         (2 * (q - p) = x.key.length ∧ (x.key.grade < g ∨ (x.key.grade = g ∧ x.p ≤ p)))))) ∧
     (d.piece = none → d.score = 0 ∧ ∀ p q g c n, i.Offers run p q g c n → n = 0)) ∧
  (∀ (i : SolveInput) (r : Reason) (x : Piece), (decisionOf i r).piece = some x →
     (∀ o, i.override = some o → o.trim = none) →
     ∃ run, i.run = some run ∧ x.p + 3 ≤ x.q ∧ x.q ≤ 10 ∧ x.key.length = 2 * (x.q - x.p) ∧
       x.key.species = run.species ∧ x.key.thickness = run.thickness ∧
       (∀ g ∈ ((gradeSegments i).drop (2 * x.p)).take (2 * x.q - 2 * x.p), g.coverage = .full ∧ g.grade ≠ some 6) ∧
       i.limits.getD 25 1 ≤ x.key.grade ∧ (i.geoOnly = true → i.limits.getD 26 1 ≤ x.key.grade) ∧
       (∀ o m, i.override = some o → o.grade = some m → m ≤ x.key.grade) ∧
       (i.values.getD (40 * (x.key.grade - 1) + 5 * ((x.key.length - 6) / 2) + (x.key.widthClass - 1))
         { state := .absent, value := 0 }).state = .present ∧
       0 < (decisionOf i r).score) ∧
  (∀ (i : SolveInput) (r : Reason) (run : Run), i.run = some run → i.noScan = false →
     (∀ o, i.override = some o → o.trim = none ∧ o.chip = false) →
     let d := decisionOf i r
     let priced := fun state => ∃ p q g c, i.Graded run p q g c ∧ (i.entryAt (run.keyAt p q g c)).state = state
     d.flags.noRun = false ∧ (d.flags.noPrice = true ↔ priced .absent) ∧ (d.flags.tableLimited = true ↔ priced .withdrawn) ∧
       (d.flags.orderExcluded = true ↔ ∃ p q g c, i.Graded run p q g c ∧
         (i.entryAt (run.keyAt p q g c)).state = .present ∧ i.FilledUnder (run.keyAt p q g c) .exclude) ∧
       (d.flags.orderDiscount = true ↔ ∃ x n, d.piece = some x ∧ i.FilledUnder x.key (.discount n))) ∧
  (∀ (i : SolveInput) (r : Reason),
     let d := decisionOf i r
     let chipped := fun noRun => d.piece = none ∧ d.score = 0 ∧ d.flags = { DecisionFlags.clear with noRun := noRun }
     d.reason = r ∧ (i.noScan = true → chipped i.run.isNone) ∧ (i.noScan = false → i.run = none → chipped true) ∧
       ∀ run o, i.noScan = false → i.run = some run → i.override = some o → o.chip = true → chipped false) ∧
  ∀ (i : SolveInput) (r : Reason) (run : Run) (o : Override) (p q : Nat), i.run = some run → i.noScan = false →
    i.override = some o → o.trim = some (p, q) → o.chip = false →
    let d := decisionOf i r
    ((∃ y ∈ i.kept p q, y.coverage ≠ .full) → d = decisionOf { i with override := some { o with trim := none } } r) ∧
    ((∀ y ∈ i.kept p q, y.coverage = .full) → ∃ x, d.piece = some x ∧ x.p = p ∧ x.q = q ∧
      x.key = run.keyAt p q x.key.grade x.key.widthClass ∧
      x.width = (run.classes.getD (x.key.widthClass - 1) (0, 0)).1 ∧
      ((∀ c, ¬ i.Classed run p q c) → x.key.widthClass = 1 ∧ d.score = 0 ∧ d.flags = DecisionFlags.clear) ∧
      (∀ c, i.Classed run p q c → x.key.widthClass = c) ∧
      ((∃ y ∈ i.kept p q, y.grade = some 6) → x.key.grade = 6 ∧ d.score = 0 ∧ d.flags = DecisionFlags.clear) ∧
      (∀ raw, (∀ y ∈ i.kept p q, y.grade ≠ some 6) → i.RawGrade p q raw → x.key.grade = i.heldGrade raw) ∧
      ∀ c, i.Classed run p q c → x.key.grade ≤ 5 →
        let state := (i.entryAt x.key).state
        (state = .absent → d.score = 0 ∧ d.flags = { DecisionFlags.clear with noPrice := true }) ∧
        (state = .withdrawn → d.score = 0 ∧ d.flags = { DecisionFlags.clear with tableLimited := true }) ∧
        (state = .present → i.FilledUnder x.key .exclude →
          d.score = 0 ∧ d.flags = { DecisionFlags.clear with orderExcluded := true }) ∧
        (∀ n, state = .present → i.FilledUnder x.key (.discount n) →
          d.score = i.fullScore run x.key * n / 100 ∧ d.flags = { DecisionFlags.clear with orderDiscount := true }) ∧
        (state = .present → (∀ action, ¬ i.FilledUnder x.key action) →
          d.score = i.fullScore run x.key ∧ d.flags = DecisionFlags.clear))

/-- The price requests over a range (R106, R107): values stored with an ABSENT entry made PRESENT, PRESENT entries withdrawn,
WITHDRAWN ones restored; entries outside the range, and every value but those set, are kept; a bad range is refused. That the
transmitter looks at the end of the event is the model's choice (log entry 5). -/
def Obligations.PriceRequestsChangeTheirRange : Prop :=
  ∀ (s : State) (tag first count : Byte) (values : List Byte), s.CanAnswer → s.solver.values.length = 200 →
    values.length = 2 * count.toNat →
    let f := first.toNat
    let c := count.toNat
    let good := f ≤ 199 ∧ 1 ≤ c ∧ f + c ≤ 200
    let priced := fun k => 256 * (values.getD (2 * k) 0).toNat + (values.getD (2 * k + 1) 0).toNat
    let table := fun (g : Nat → ValueEntry → ValueEntry) => s.setSolver { s.solver with
      values := (List.range 200).map fun n =>
        let e := s.solver.values.getD n { state := .absent, value := 0 }
        if f ≤ n ∧ n < f + c then g (n - f) e else e }
    (¬ good →
      exec (.priceSet tag (first :: count :: values)) s = .next (s.setLink (s.link.answered 0x07 tag .outOfRange [])) ∧
      exec (.priceWithdraw tag [first, count]) s = .next (s.setLink (s.link.answered 0x08 tag .outOfRange [])) ∧
      exec (.priceRestore tag [first, count]) s = .next (s.setLink (s.link.answered 0x09 tag .outOfRange []))) ∧
    (good →
      exec (.priceSet tag (first :: count :: values)) s =
        .next ((table fun k e => { state := if e.state = .absent then .present else e.state, value := priced k }).setLink
          (s.link.answered 0x07 tag .accepted [])) ∧
      exec (.priceWithdraw tag [first, count]) s =
        .next ((table fun _ e => if e.state = .present then { e with state := .withdrawn } else e).setLink
          (s.link.answered 0x08 tag .accepted [])) ∧
      exec (.priceRestore tag [first, count]) s =
        .next ((table fun _ e => if e.state = .withdrawn then { e with state := .present } else e).setLink
          (s.link.answered 0x09 tag .accepted [])))

/-! ### Chapter 7: the grading stations -/

/-- A board key that the checks of R117 let through (R118, R119, R54): the override record by the table, on the record the
station owns or on none, the reply OK, the re-solve of a SOLVED or SOLVING board, and the message to a station superseded, lost and
counted when its queue has no room (R114). The key's display is refreshed after the reply, and the other station's, after its
message, when it shows the board (R122).

The re-solve request (R89): the board's entry takes the reason OVERRIDE in its place, or a new entry is made at the young end and
raises the high-water mark, also when the board's own solve is in progress; a solve in progress goes on as it was. With the solver
idle the oldest entry's solve begins at once, on the record as the key leaves it (R90). Every other board is left as it was. -/
def Obligations.BoardKeyWritesTheOverride : Prop :=
  ∀ (s : State) (st : StationId) (lug : Lug) (b : Board) (g p q : Nat), s.Attentive → (s.station st).lineCount < 8 →
    (s.station st).buffer = [] → (s.station st).discard = false → (s.station st).selection = some lug →
    s.board? lug = some b → b.state = .assembling ∨ b.state = .solving ∨ b.state = .solved → b.window st = .isOpen →
    1 ≤ g → g ≤ 5 → p + 3 ≤ q → q ≤ 10 →
    let base : Override := match b.override with
      | some o => if o.owner = st then o else { owner := st, grade := none, trim := none, chip := false }
      | none => { owner := st, grade := none, trim := none, chip := false }
    ∀ c merged,
      (c, merged) ∈ [(.gradeMarkKey st g, some { base with grade := some g }),
        (.trimMarkKey st p q, some { base with trim := some (p, q), chip := false }),
        (.chipKey st, some { base with trim := none, chip := true }), (.releaseKey st, none)] →
      (c = .trimMarkKey st p q → b.state = .assembling ∨
        ∀ x ∈ (b.segments.drop (2 * p)).take (2 * q - 2 * p), x.coverage = .full) →
      ∃ t b', exec c s = .next t ∧ t.board? lug = some b' ∧ b'.override = merged ∧
        .reply .ok ∈ (t.station st).output ∧
        (t.station st).records = min ((s.station st).records + 1) 65535 ∧
        (∀ o, b.override = some o → o.owner ≠ st → (s.station o.owner).lineCount < 8 →
          .superseded lug st ∈ (t.station o.owner).output) ∧
        ((s.station st).replied .ok).Shows (t.displayLine st) (t.station st) ∧
        (let y := s.station (otherStation st)
         let told := if b.override.map Override.owner ≠ some (otherStation st) then y
           else if y.lineCount < 8 then { y with output := y.output ++ [.superseded lug st] }
           else { y with messagesLost := min (y.messagesLost + 1) 65535 }
         (y.Showing lug → told.Shows (t.displayLine (otherStation st)) (t.station (otherStation st))) ∧
           (¬ y.Showing lug → t.station (otherStation st) = { told with sending := decide (told.output ≠ []) })) ∧
        (merged = none → b.override = none → t.solver = s.solver ∧ b'.state = b.state) ∧
        (b.state = .assembling → t.solver = s.solver ∧ b'.state = .assembling) ∧
        (merged ≠ none ∨ b.override ≠ none → b.state ≠ .assembling → b'.state = .solving ∧
          let held := ∃ e ∈ s.solver.queue, e.1 = lug
          let asked := fun queue => queue = if held then
              s.solver.queue.map fun e => if e.1 = lug then (lug, Reason.override) else e
            else s.solver.queue ++ [(lug, .override)]
          let high := if held then s.solver.highWater else max s.solver.highWater (s.solver.queue.length + 1)
          (∀ v queue, s.solver.inProgress = some v → asked queue →
            t.solver = { s.solver with queue := queue, highWater := high }) ∧
          ∀ first reason rest, s.solver.inProgress = none → asked ((first, reason) :: rest) →
            t.solver = { s.solver with queue := rest, highWater := high, inProgress := (t.board? first).map fun k =>
              { lug := first, reason := reason, input :=
                { segments := k.segments, extent := k.extent, geoOnly := k.flags.geoOnly, noScan := k.flags.noScan,
                  assemblyRun := k.assemblyRun, override := k.override, run := s.solver.run, limits := s.frames.limits,
                  generation := s.frames.generation, values := s.solver.values, orders := s.tally.orders } } }) ∧
        (∀ k, k ≠ lug → t.board? k = s.board? k) ∧ b'.extent = b.extent ∧
        b'.decision = b.decision ∧ b'.segments = b.segments ∧ b'.flags = b.flags ∧
        s.sameBut t [.stationA, .stationB, .track, .solver]

/-- A board key that a check of R117 refuses is answered with that check's reason, and changes nothing but the station's
queue and count (R113, R117).

A key that comes with eight reply and message lines queued is discarded unanswered and counted, and one that comes in
STARTING is discarded (R112).

A record that spells no key (R113: an unknown key letter, fields too many or too few, a space doubled, leading or trailing, a
field that is not one to five digits, a g, p or q out of range), and one with a character received wrongly, is answered NO SYNTAX,
counted, and has no effect (R112, R113). The records that spell a key are read as the key they spell, and no other is read.

The characters of a record (R112): a record with no characters at all is ignored, with no reply. A line feed is ignored wherever it
stands. A record with a character received wrongly, with one that cannot stand in a record, or with a 33rd character is answered NO
SYNTAX (what the buffer then held, log entry 39). A record of any characters is discarded unanswered in STARTING, and discarded and
counted with eight reply and message lines queued. -/
def Obligations.RefusedKeyChangesNothing : Prop :=
  (∀ (s : State) (st : StationId) (g p q : Nat), s.Attentive → (s.station st).lineCount < 8 →
     (s.station st).buffer = [] → (s.station st).discard = false → 1 ≤ g → g ≤ 5 → p + 3 ≤ q → q ≤ 10 →
     let x := s.station st
     let answered := fun r => Host.Outcome.next (ρ := Refusal) (φ := Fault) (s.setStation st { x with
       records := min (x.records + 1) 65535, output := x.output ++ [.reply r], sending := true })
     (∀ c ∈ [Instr.gradeMarkKey st g, .trimMarkKey st p q, .chipKey st, .releaseKey st],
       (x.selection = none → x.last = none → exec c s = answered .noBoard) ∧
       (x.selection = none → x.last.isSome = true → exec c s = answered .noTooLate) ∧
       ∀ lug b, x.selection = some lug → s.board? lug = some b →
         b.state = .committed ∨ b.state = .accepted ∨ b.state = .missed ∨ b.window st = .closed →
         exec c s = answered .noTooLate) ∧
     ∀ lug b, x.selection = some lug → s.board? lug = some b → b.state = .solving ∨ b.state = .solved →
       b.window st = .isOpen → (∃ y ∈ (b.segments.drop (2 * p)).take (2 * q - 2 * p), y.coverage ≠ .full) →
       exec (.trimMarkKey st p q) s = answered .noWood) ∧
  (∀ (s : State) (st : StationId) (g p q n : Nat), s.Settled →
     ∀ c ∈ [Instr.gradeMarkKey st g, .trimMarkKey st p q, .chipKey st, .releaseKey st, .selectOlderKey st, .holdKey st g n,
         .cancelHoldKey st, .refreshKey st],
       (s.power = .ready → 8 ≤ (s.station st).lineCount → exec c s = .next (s.setStation st { s.station st with
         buffer := [], discard := false, overruns := min ((s.station st).overruns + 1) 65535 })) ∧
       (∀ cause, s.power = .starting cause →
         exec c s = .next (s.setStation st { s.station st with buffer := [], discard := false }))) ∧
  (let allowed := fun b : Byte =>
     b = 0x20#8 ∨ b = 0x3F#8 ∨ (0x30 ≤ b.toNat ∧ b.toNat ≤ 0x39) ∨ (0x41 ≤ b.toNat ∧ b.toNat ≤ 0x5A)
   let lineFeed := RxChar.byte 0x0A#8
   let ending := RxChar.byte 0x0D#8
   (∀ (s : State) (st : StationId), s.Settled → (s.station st).buffer = [] → (s.station st).discard = false →
     exec (.stationSyntaxRecord st [ending]) s = .next s) ∧
   (∀ (s : State) (st : StationId) (received : List RxChar),
     exec (.stationSyntaxRecord st received) s = exec (.stationSyntaxRecord st (received.filter fun c => c ≠ lineFeed)) s) ∧
   (∀ (s : State) (st : StationId) (received : List RxChar), s.Attentive → (s.station st).lineCount < 8 →
     (s.station st).buffer = [] → (s.station st).discard = false → ending ∉ received →
     let x := s.station st
     let answered := Host.Outcome.next (ρ := Refusal) (φ := Fault) (s.setStation st { x with
       records := min (x.records + 1) 65535, syntaxCount := min (x.syntaxCount + 1) 65535,
       output := x.output ++ [.reply .noSyntax], sending := true })
     (∀ record : List Byte, received = record.map .byte → record ≠ [] → record.length ≤ 32 → (∀ b ∈ record, allowed b) →
       (∀ k, ¬ Spells record k) → exec (.stationSyntaxRecord st (received ++ [ending])) s = answered) ∧
     (RxChar.framingError ∈ received ∨ (∃ b, RxChar.byte b ∈ received ∧ b ≠ 0x0A#8 ∧ ¬ allowed b) ∨
         32 < (received.filter fun c => c ≠ lineFeed).length →
       exec (.stationSyntaxRecord st (received ++ [ending])) s = answered)) ∧
   ∀ (s : State) (st : StationId) (received : List RxChar), s.Settled → ending ∉ received →
     (∀ cause, s.power = .starting cause → exec (.stationSyntaxRecord st (received ++ [ending])) s =
       .next (s.setStation st { s.station st with buffer := [], discard := false })) ∧
     ((s.station st).buffer ≠ [] ∨ (s.station st).discard = true ∨ (∃ c ∈ received, c ≠ lineFeed) → s.power = .ready →
       8 ≤ (s.station st).lineCount → exec (.stationSyntaxRecord st (received ++ [ending])) s =
         .next (s.setStation st { s.station st with
           buffer := [], discard := false, overruns := min ((s.station st).overruns + 1) 65535 }))) ∧
  ∀ (record : List Byte) (k : Key), parseRecord record = some k ↔ Spells record k

/-- The key P (R116): the next older board whose window at the station is OPEN becomes the selection; with none it answers NO
NO BOARD. The key ? (R126) changes nothing but what the station is sent. Both refresh the display after the reply (R114, R122), and
leave the other station as it was.

The text of a display line (R121): its fields separated by single spaces, of the board shown, the selection or the last board, or
`D ----` with the Holds field alone. A number stands in decimal without leading zeros, the lug number modulo 10000 in four digits;
the flag codes stand in the order of the table's columns, the left one first (log entry 22). -/
def Obligations.SelectOlderAndRefreshKeys : Prop :=
  (∀ (s : State) (st : StationId), s.Attentive → (s.station st).lineCount < 8 → (s.station st).buffer = [] →
    (s.station st).discard = false →
    let x := s.station st
    (∀ older y mid z younger, s.track.boards = older ++ y :: mid ++ z :: younger → x.selection = some z.lug →
      y.window st = .isOpen → (∀ k ∈ mid, k.window st ≠ .isOpen) → (∀ k ∈ older ++ y :: mid, k.lug ≠ z.lug) →
      ∃ t, exec (.selectOlderKey st) s = .next t ∧ (t.station st).selection = some y.lug ∧ (t.station st).last = none ∧
        .reply .ok ∈ (t.station st).output ∧
        ({ x.replied .ok with selection := some y.lug, last := none } : Station).Shows (t.displayLine st) (t.station st) ∧
        t.station (otherStation st) = s.station (otherStation st) ∧ s.sameBut t [.stationA, .stationB]) ∧
    (x.selection = none ∨ (∃ older z younger, s.track.boards = older ++ z :: younger ∧ x.selection = some z.lug ∧
        ∀ k ∈ older, k.lug ≠ z.lug ∧ k.window st ≠ .isOpen) →
      exec (.selectOlderKey st) s = .next (s.setStation st { x with
        records := min (x.records + 1) 65535, output := x.output ++ [.reply .noBoard], sending := true })) ∧
    ∃ t, exec (.refreshKey st) s = .next t ∧ .reply .ok ∈ (t.station st).output ∧
      .display (s.displayLine st) ∈ (t.station st).output ∧ (t.station st).selection = x.selection ∧
      (t.station st).last = x.last ∧ (t.station st).retrigger = x.retrigger ∧
      (x.replied .ok).Shows (s.displayLine st) (t.station st) ∧
      t.station (otherStation st) = s.station (otherStation st) ∧ s.sameBut t [.stationA, .stationB]) ∧
  (∀ (s : State) (st : StationId),
     let x := s.station st
     let text := (s.displayLine st).text
     let spaced := fun fields : List (List Byte) => [0x20#8].intercalate fields
     let joined := fun (mark : Char) (h : Hold) => decimalText h.code ++ textOf [mark] ++ decimalText h.ceiling
     let owned := s.frames.holds.filter fun h => h.owner = st
     let holds := textOf ['H'] ++
       if owned = [] then textOf ['-'] else (textOf [',']).intercalate (owned.map (joined ':'))
     ((∀ lug, x.Showing lug → s.board? lug = none) →
       text = spaced [textOf ['D'], textOf ['-', '-', '-', '-'], holds]) ∧
     ∀ lug b, x.Showing lug → s.board? lug = some b →
       let state := match b.state with
         | .assembling => ['A', 'S']
         | .solving => ['S', 'V']
         | .solved => ['S', 'D']
         | .committed => ['C', 'M']
         | .accepted => ['A', 'C']
         | .missed => ['M', 'S']
       let piece := b.decision.bind Decision.piece
       let decision := match b.decision, piece with
         | none, _ => textOf ['-', '-', '-', '-']
         | some _, some y => textOf ['L'] ++ decimalText y.key.length
         | some _, none => textOf ['C', 'H', 'I', 'P']
       let grade := match piece with
         | some y => textOf ['G'] ++ decimalText y.key.grade
         | none => textOf ['-']
       let size := match piece with
         | some y => decimalText y.key.thickness ++ textOf ['X'] ++ decimalText y.width
         | none => textOf ['-']
       let override := match b.override with
         | none => textOf ['-']
         | some o => textOf [if o.owner = .a then 'A' else 'B', ':'] ++
             (o.grade.elim [] fun g => textOf ['G'] ++ decimalText g) ++
             (o.trim.elim [] fun y => textOf ['T'] ++ decimalText y.1 ++ textOf ['-'] ++ decimalText y.2) ++
             if o.chip then textOf ['C'] else []
       let solved := fun flag : DecisionFlags → Bool => b.decision.any fun d => flag d.flags
       let carried := [(b.flags.slipped, ['S', 'L']), (b.flags.headMissing, ['H', 'M']), (b.flags.clamped, ['C', 'L']),
           (b.flags.geoOnly, ['G', 'O']), (b.flags.noScan, ['N', 'S']), (b.flags.runStraddle, ['R', 'S']),
           (solved DecisionFlags.orderExcluded, ['O', 'X']), (b.flags.notCommitted, ['N', 'T']),
           (b.flags.trimOverrun, ['T', 'O']), (b.flags.trimDeadline, ['T', 'D']), (solved DecisionFlags.noRun, ['N', 'R']),
           (solved DecisionFlags.noPrice, ['N', 'P']), (solved DecisionFlags.tableLimited, ['T', 'L']),
           (solved DecisionFlags.orderDiscount, ['O', 'D'])].filter Prod.fst
       let flags := if carried = [] then ['-'] else carried.flatMap Prod.snd
       text = spaced [textOf ['D'], lugText lug, textOf [if x.selection = some lug then 'W' else 'X'], textOf state, decision,
         grade, size, override, textOf flags, holds]) ∧
  (∀ n, n ≤ 99999 → SpellsNumber (decimalText n) n ∧ ((decimalText n).head? = some 0x30#8 → n = 0)) ∧
  ∀ lug : Lug, lugText lug = [1000, 100, 10, 1].map fun unit => BitVec.ofNat 8 (48 + lug.toNat / unit % 10)

/-- The characters of a key, received whole, act as the key's command (R112, R113): every key with every field in its range
is read back from its record. -/
def Obligations.KeyCharactersActAsTheKey : Prop :=
  ∀ (s : State) (st : StationId) (k : Key), s.Attentive → (s.station st).buffer = [] → (s.station st).discard = false →
    k.inRange = true →
    parseRecord (keyText k) = some k ∧
      exec (.stationSyntaxRecord st ((keyText k).map .byte ++ [.byte 0x0D#8])) s = exec (keyCommand st k) s

/-! ### Chapter 8: trimmer and sorter ports -/

/-- ACK in INTERLOCKED mode and the end of a full pulse in PULSED mode (R133, R134, R135): the presented board is accepted, the
lines drop, the staged decision moves up and waits, and the board becomes ACCEPTED.

Its result (R63) is counted in this order: a piece in the product tally and a chip in its count (R147, R148), a board of no open
log in the unattributed account (R148), a piece in its order, which may fill (R152), the accepted count, which at the interval
asks for a checkpoint (R149), and the board's log, which may close (R25, R26). The notices stand in the order of the counting
(the transmitter looks at the end of the event, log entry 5). Every other board's record is as it was; the displays that show the
board are refreshed, and no other station changes (R122). -/
def Obligations.AcceptanceEmptiesThePresentedSlot : Prop :=
  ∀ (s : State) (x : Slot) (b : Board) (d : Decision), s.Attentive → s.trimmer.phase = .on → s.trimmer.presented = some x →
    s.board? x.lug = some b → b.state = .committed → b.decision = some d →
    ∀ c pins, (c = .ackRise ∧ s.trimmer.mode = .interlocked ∧ pins = { s.pins with ack := true }) ∨
        (c = .pulseEnd ∧ s.trimmer.mode = .pulsed ∧ pins = s.pins) →
      ∃ t, exec c s = .next t ∧ t.pins = pins ∧
        t.trimmer = { s.trimmer with
          presented := s.trimmer.staged, staged := none, onLines := false, phase := .recovering,
          lines := { saws := 0, tag := 0, dv := false }, accepted := min (s.trimmer.accepted + 1) 65535 } ∧
        t.board? x.lug = some { b with state := .accepted } ∧ (∀ k, k ≠ x.lug → t.board? k = s.board? k) ∧
        s.DisplayedFor t x.lug ∧
        s.sameBut t [.pins, .trimmer, .track, .stationA, .stationB, .tally, .store, .link, .logs] ∧
        let volume := d.piece.elim 0 fun y => y.key.thickness * y.width * y.key.length
        let attributed := s.logs.queue.any fun l => b.logId = some l.id
        let pieced := match d.piece with
          | some y => s.tally.live.countPiece s.tally.period y
          | none => ({ s.tally.live with body := { s.tally.live.body with chips := s.tally.live.body.chips.add8 1 } }, none)
        let body := if attributed then pieced.1.body else { pieced.1.body with unattributed :=
          { count := pieced.1.body.unattributed.count.add8 1,
            twelfths := pieced.1.body.unattributed.twelfths.add10 volume } }
        let reached := s.tally.interval ≤ s.tally.accepted + 1
        let tally := fun orders => { s.tally with
          live := { pieced.1 with body := body }, orders := orders,
          accepted := if reached then 0 else s.tally.accepted + 1 }
        let faults := (pieced.2.map Notice.fault).toList
        ∃ (orders : List Order) (fills closings : List Notice),
          ((∀ y, d.piece = some y → ∀ o ∈ s.tally.orders, o.key ≠ y.key) → orders = s.tally.orders ∧ fills = []) ∧
          (∀ y older o younger, d.piece = some y → s.tally.orders = older ++ o :: younger → o.key = y.key →
            (∀ k ∈ older ++ younger, k.key ≠ y.key) →
            let filled := o.filled.add10 volume
            let after : Order := { o with filled := filled, state := if o.target ≤ filled.value then .filled else o.state }
            orders = older ++ after :: younger ∧
            fills = if o.state = .isOpen ∧ o.target ≤ filled.value then
              [.orderFilled o.key o.target filled o.action (some x.lug) s.tally.period] else []) ∧
          t.store = (if reached then (s.setTally (tally orders)).requestCheckpoint.store else s.store) ∧
          (attributed = false → t.logs = s.logs ∧ t.tally = tally orders ∧ closings = []) ∧
          (∀ older l younger, s.logs.queue = older ++ l :: younger → b.logId = some l.id →
            (∀ k ∈ older ++ younger, k.id ≠ l.id) →
            let counted : Log := { l with
              pending := l.pending - 1, doneCount := l.doneCount + 1,
              pieces := if d.piece.isSome then l.pieces + 1 else l.pieces, twelfths := l.twelfths + volume,
              chips := if d.piece.isSome then l.chips else l.chips + 1 }
            (l.state ≠ .draining ∨ 2 ≤ l.pending → t.logs = { s.logs with queue := older ++ counted :: younger } ∧
              t.tally = tally orders ∧ closings = []) ∧
            (l.state = .draining → l.pending ≤ 1 → t.logs = { s.logs with queue := older ++ younger } ∧
              t.tally = { tally orders with live := { pieced.1 with body := { body with
                classes := body.classes.modify l.figures.diameterClass (LogClass.addLog counted.recovery) } } } ∧
              closings = [.logRecovery counted.recovery])) ∧
          t.link = ((faults ++ fills ++ closings).foldl (fun l n => l.queueNotice n) s.link).takeUp

/-- ACK events that accept nothing (R133): a rise in phase READY is a HANDSHAKE fault; a rise in RECOVERING, and every rise in
PULSED mode, changes the level alone; so does a fall but in RECOVERING. The rise in RECOVERING, which the table of R133 says cannot
arise, changes the level alone by the model's choice (log entry 29).

The phase becomes READY at the fall of ACK or at the end of the gap, and a waiting decision goes on the lines when the line
is RUNNING (R132, R133, R134). -/
def Obligations.AckAndGapEndTheRecovery : Prop :=
  (∀ (s : State), s.Attentive →
     let rise := s.setPins { s.pins with ack := true }
     let fall := s.setPins { s.pins with ack := false }
     (s.trimmer.mode = .interlocked → s.trimmer.phase = .ready → exec .ackRise s =
       .next ((rise.setTrimmer { s.trimmer with
           handshakeFaults := min (s.trimmer.handshakeFaults + 1) 65535, phase := .recovering }).setLink
         (s.link.queueNotice (.fault (.handshake s.chain.lug s.trimmer.lastTag))).takeUp)) ∧
     (s.trimmer.mode = .pulsed ∨ s.trimmer.phase = .recovering → exec .ackRise s = .next rise) ∧
     (s.trimmer.mode = .pulsed ∨ s.trimmer.phase ≠ .recovering → exec .ackFall s = .next fall)) ∧
  (∀ (s : State), s.Attentive → s.trimmer.phase = .recovering → s.trimmer.onLines = false →
     ∀ c pins, (c = .ackFall ∧ s.trimmer.mode = .interlocked ∧ pins = { s.pins with ack := false }) ∨
         (c = .pulseGapEnd ∧ s.trimmer.mode = .pulsed ∧ pins = s.pins) →
       (s.trimmer.presented = none ∨ s.chain.line = .stopped →
         exec c s = .next ((s.setPins pins).setTrimmer { s.trimmer with phase := .ready })) ∧
       (∀ x, s.trimmer.presented = some x → s.chain.line = .running →
         exec c s = .next ((s.setPins pins).setTrimmer { s.trimmer with
           phase := .on, onLines := true, presented := some { x with again := false },
           lines := { saws := x.mask, tag := BitVec.ofNat 6 x.lug.toNat, dv := true },
           lastTag := BitVec.ofNat 6 x.lug.toNat,
           representations := if x.again then min (s.trimmer.representations + 1) 65535
             else s.trimmer.representations })))

/-- The sorter's strobe (R142): the sort event delivers the board's codes by the strobe state, counted when the strobe begins and
when it cannot be delivered, and writes them into the record, which the Watch Unit sees with them; a gap of the strobe's width
follows its end, with the lines inactive; the end of the gap delivers the waiting strobe at the width in force, or leaves the port
idle; CLEAR LINE leaves the port as it is.

The bin and stamp codes by the board's final state and decision (R143). -/
def Obligations.StrobesCarryTheSortCodes : Prop :=
  (∀ (s : State) (lug : Lug) (b : Board), s.board? lug = some b → b.state = .accepted ∨ b.state = .missed →
     let codes := s.sorter.codes b.state b.decision
     ∃ (x : Sorter) (u : State), (s.sortEvent lug).sorter = x ∧
       (s.sorter.strobe = .idle → x = { s.sorter with
         strobe := .strobing codes s.trimmer.width, delivered := min (s.sorter.delivered + 1) 65535 }) ∧
       (s.sorter.strobe ≠ .idle → s.sorter.waiting = none → x = { s.sorter with waiting := some codes }) ∧
       (s.sorter.strobe ≠ .idle → s.sorter.waiting.isSome = true →
         x = { s.sorter with overruns := min (s.sorter.overruns + 1) 65535 }) ∧
       u.board? lug = some { b with sort := some codes } ∧ u.sorter = x ∧ u.watch = s.watch ∧
       (s.sortEvent lug).watch = (u.watchHand .report lug).watch) ∧
  (∀ (s t : State) (tag : Byte), exec (.clearLine tag []) s = .next t → t.sorter = s.sorter) ∧
  (∀ (s : State), s.Attentive →
     (∀ codes w, s.sorter.strobe = .strobing codes w →
       s.sorter.lines = (codes.bin, codes.stamp, true) ∧
       exec .strobeEnd s = .next (s.setSorter { s.sorter with strobe := .gap w })) ∧
     (∀ w, s.sorter.strobe = .gap w → s.sorter.lines = (0, 0, false) ∧
       (s.sorter.waiting = none → exec .strobeGapEnd s = .next (s.setSorter { s.sorter with strobe := .idle })) ∧
       ∀ codes, s.sorter.waiting = some codes → exec .strobeGapEnd s = .next (s.setSorter { s.sorter with
         strobe := .strobing codes s.trimmer.width, waiting := none,
         delivered := min (s.sorter.delivered + 1) 65535 }))) ∧
  (∀ (x : Sorter) (st : BoardState) (d : Option Decision),
     (st ≠ .accepted → x.codes st d = { bin := 31, stamp := 7 }) ∧
     (∀ y, st = .accepted → d = some y → y.piece = none → x.codes st d = { bin := 0, stamp := 0 }) ∧
     ∀ y piece, st = .accepted → d = some y → y.piece = some piece →
       (x.codes st d).stamp = piece.key.grade ∧
       (∀ older bin younger, x.bins = older ++ (piece.key, bin) :: younger → (∀ e ∈ older, e.1 ≠ piece.key) →
         (x.codes st d).bin = bin) ∧
       ((∀ e ∈ x.bins, e.1 ≠ piece.key) → piece.key.grade = 6 → (x.codes st d).bin = 31) ∧
       ((∀ e ∈ x.bins, e.1 ≠ piece.key) → piece.key.grade ≠ 6 → (x.codes st d).bin = x.defaultBin))

/-- Every step keeps the trimmer port's promise (R129, R132): the lines carry the presented decision's saws and tag with DV while
it is on the lines, in phase ON with the line RUNNING, and are inactive at every other time; nothing is staged behind an empty
slot. -/
def Obligations.EveryStepKeepsTheTrimmerLines : Prop :=
  ∀ (s t : State), s.TrimmerOk → step s = .next t → t.TrimmerOk

/-! ### Chapter 9: tally, orders and recovery accounts -/

/-- A tally counter holds the sum of what was added, or its greatest value with its mark set from the first addition that did
not fit (R146).

An accepted piece in the product tally (R147): its key's bin, a new bin, or the overflow account with the fault that is
raised once in a period. A counter of eight digits goes to 99,999,999 and one of ten to 9,999,999,999.

A MISSED result (R148, R25, R26): missed + 1, and one more board in the unattributed account when its log id names no open log; its
open log's missed-or-lost and done counts rise and its pending count falls, and a DRAINING log with none left pending closes, its
recovery record in the log tally and in a LOG RECOVERY notice. -/
def Obligations.TallyCountersAndBins : Prop :=
  (∀ (greatest : Nat) (added : List Nat),
     added.foldl (fun c n => Counter.add greatest n c) Counter.zero =
       { value := min added.sum greatest, saturated := decide (greatest < added.sum) }) ∧
  (∀ (n : Nat) (c : Counter),
     let added := fun greatest : Nat => if c.saturated = true then c
       else if c.value + n ≤ greatest then { c with value := c.value + n } else { value := greatest, saturated := true }
     c.add8 n = added 99999999 ∧ c.add10 n = added 9999999999) ∧
  (∀ (s : State) (b : Board),
     let t := s.boardResult b .missed
     let body := s.tally.live.body
     let counted := { body with missed := body.missed.add8 1 }
     let tally := fun body => { s.tally with live := { s.tally.live with body := body } }
     ((∀ l ∈ s.logs.queue, b.logId ≠ some l.id) → t.logs = s.logs ∧ t.link = s.link ∧ t.tally = tally { counted with
       unattributed := { count := body.unattributed.count.add8 1, twelfths := body.unattributed.twelfths.add10 0 } }) ∧
     (∀ older l younger, s.logs.queue = older ++ l :: younger → b.logId = some l.id →
       (∀ k ∈ older ++ younger, k.id ≠ l.id) →
       let after : Log := { l with pending := l.pending - 1, doneCount := l.doneCount + 1, missedLost := l.missedLost + 1 }
       (l.state ≠ .draining ∨ 2 ≤ l.pending → t.logs = { s.logs with queue := older ++ after :: younger } ∧
         t.link = s.link ∧ t.tally = tally counted) ∧
       (l.state = .draining → l.pending ≤ 1 → t.logs = { s.logs with queue := older ++ younger } ∧
         t.link = s.link.queueNotice (.logRecovery after.recovery) ∧ t.tally = tally { counted with
           classes := body.classes.modify l.figures.diameterClass (LogClass.addLog after.recovery) })) ∧
     s.sameBut t [.logs, .link, .tally]) ∧
  (∀ (t : LiveTally) (period : Nat) (x : Piece),
     let volume := x.key.thickness * x.width * x.key.length
     let overflowed := { t.body with overflow :=
       { count := t.body.overflow.count.add8 1, twelfths := t.body.overflow.twelfths.add10 volume } }
     (∀ older b younger, t.body.bins = older ++ b :: younger → b.key = x.key →
       (∀ k ∈ older ++ younger, k.key ≠ x.key) →
       (b.width = x.width → t.countPiece period x = ({ t with body := { t.body with
         bins := older ++ { b with pieces := b.pieces.add8 1, twelfths := b.twelfths.add10 volume } :: younger } },
         none)) ∧
       (b.width ≠ x.width → t.countPiece period x = ({ t with body := overflowed, widthFault := true },
         if t.widthFault then none else some (.tallyWidth x.key b.width x.width)))) ∧
     ((∀ k ∈ t.body.bins, k.key ≠ x.key) → t.body.bins.length < 256 → t.countPiece period x =
       ({ t with body := { t.body with bins := t.body.bins ++
           [{ key := x.key, width := x.width, pieces := { value := 1, saturated := false },
              twelfths := Counter.add10 volume Counter.zero }] } }, none)) ∧
     ((∀ k ∈ t.body.bins, k.key ≠ x.key) → 256 ≤ t.body.bins.length → t.countPiece period x =
       ({ t with body := overflowed, fullFault := true },
         if t.fullFault then none else some (.tallyFull x.key period))))

/-- ORDER SET and ORDER CANCEL (R150, R151): refused for their fields, a full table or a key not found; else a new OPEN record,
a record with its new target settled against what is filled, or a record removed. Bit 3 of a
key is not read (log entry 21). That the transmitter looks at the end of the event, and so sends the reply before the notice, is
the model's choice (log entry 5). -/
def Obligations.OrderRequestsKeepTheTable : Prop :=
  ∀ (s : State) (tag : Byte) (body : List Byte), s.CanAnswer →
    let byte := fun n => (body.getD n 0).toNat
    let key := wireKey (body.getD 0 0) (body.getD 1 0)
    let target := (((byte 2 * 256 + byte 3) * 256 + byte 4) * 256 + byte 5) * 256 + byte 6
    let action := if byte 7 = 0 then OrderAction.exclude else .discount (byte 8)
    let good := key.Proper ∧ 1 ≤ target ∧ target ≤ 9999999999 ∧ (byte 7 = 0 ∨ (byte 7 = 1 ∧ byte 8 ≤ 100))
    (body.length = 9 → ¬ good →
      exec (.orderSet tag body) s = .next (s.setLink (s.link.answered 0x0C tag .outOfRange []))) ∧
    (body.length = 9 → good →
      ((∀ o ∈ s.tally.orders, o.key ≠ key) → s.tally.orders.length < 32 → exec (.orderSet tag body) s =
        .next ((s.setTally { s.tally with orders := s.tally.orders ++
          [{ key := key, target := target, filled := { value := 0, saturated := false }, state := .isOpen,
             action := action }] }).setLink (s.link.answered 0x0C tag .accepted []))) ∧
      ((∀ o ∈ s.tally.orders, o.key ≠ key) → 32 ≤ s.tally.orders.length → exec (.orderSet tag body) s =
        .next (s.setLink (s.link.answered 0x0C tag .tableFull []))) ∧
      ∀ older o younger, s.tally.orders = older ++ o :: younger → o.key = key →
        (∀ k ∈ older ++ younger, k.key ≠ key) →
        let settled : Order := { o with
          target := target, action := action, state := if target ≤ o.filled.value then .filled else .isOpen }
        let changed := s.setTally { s.tally with orders := older ++ settled :: younger }
        (o.state = .filled ∨ o.filled.value < target → exec (.orderSet tag body) s =
          .next (changed.setLink (s.link.answered 0x0C tag .accepted []))) ∧
        (o.state = .isOpen → target ≤ o.filled.value → exec (.orderSet tag body) s =
          .next (changed.setLink ((s.link.frameIn.queueNotice
              (.orderFilled key target o.filled action none s.tally.period)).putReply
            { type := 0x0C, tag := tag, code := .accepted, data := [] }).takeUp))) ∧
    (body.length = 2 → ¬ key.Proper →
      exec (.orderCancel tag body) s = .next (s.setLink (s.link.answered 0x0D tag .outOfRange []))) ∧
    (body.length = 2 → key.Proper →
      ((∀ o ∈ s.tally.orders, o.key ≠ key) →
        exec (.orderCancel tag body) s = .next (s.setLink (s.link.answered 0x0D tag .notFound []))) ∧
      ((∃ o ∈ s.tally.orders, o.key = key) → exec (.orderCancel tag body) s =
        .next ((s.setTally { s.tally with orders := s.tally.orders.filter fun o => o.key ≠ key }).setLink
          (s.link.answered 0x0D tag .accepted []))))

/-- BIN SET and BIN CLEAR (R144): the default bin, an entry replaced in its place, added or removed; refused for the fields, a
full table or a key not found. Bit 3 of a key is not read (log entry 21); BIN CLEAR of a key out of range is NOT_FOUND (log entry
24). -/
def Obligations.BinRequestsKeepTheTable : Prop :=
  ∀ (s : State) (tag : Byte) (body : List Byte), s.CanAnswer →
    let byte := fun n => (body.getD n 0).toNat
    let key := wireKey (body.getD 1 0) (body.getD 2 0)
    let bin := byte 3
    let good := (byte 0 = 0 ∧ key.Proper ∧ 1 ≤ bin ∧ bin ≤ 29) ∨ (byte 0 = 1 ∧ 1 ≤ bin ∧ bin ≤ 30)
    let stored := fun bins bin => Host.Outcome.next (ρ := Refusal) (φ := Fault)
      ((s.setSorter { s.sorter with bins := bins, defaultBin := bin }).setLink (s.link.answered 0x0F tag .accepted []))
    let cleared := fun bins bin => Host.Outcome.next (ρ := Refusal) (φ := Fault)
      ((s.setSorter { s.sorter with bins := bins, defaultBin := bin }).setLink (s.link.answered 0x10 tag .accepted []))
    (body.length = 4 →
      (¬ good →
        exec (.binSet tag body) s = .next (s.setLink (s.link.answered 0x0F tag .outOfRange []))) ∧
      (good → byte 0 = 1 → exec (.binSet tag body) s = stored s.sorter.bins bin) ∧
      (good → byte 0 = 0 →
        (∀ older old younger, s.sorter.bins = older ++ (key, old) :: younger → (∀ e ∈ older ++ younger, e.1 ≠ key) →
          exec (.binSet tag body) s = stored (older ++ (key, bin) :: younger) s.sorter.defaultBin) ∧
        ((∀ e ∈ s.sorter.bins, e.1 ≠ key) → s.sorter.bins.length < 32 →
          exec (.binSet tag body) s = stored (s.sorter.bins ++ [(key, bin)]) s.sorter.defaultBin) ∧
        ((∀ e ∈ s.sorter.bins, e.1 ≠ key) → 32 ≤ s.sorter.bins.length →
          exec (.binSet tag body) s = .next (s.setLink (s.link.answered 0x0F tag .tableFull []))))) ∧
    (body.length = 3 →
      (1 < byte 0 →
        exec (.binClear tag body) s = .next (s.setLink (s.link.answered 0x10 tag .outOfRange []))) ∧
      (byte 0 = 1 → exec (.binClear tag body) s = cleared s.sorter.bins 30) ∧
      (byte 0 = 0 →
        ((∃ e ∈ s.sorter.bins, e.1 = key) → exec (.binClear tag body) s =
          cleared (s.sorter.bins.filter fun e => e.1 ≠ key) s.sorter.defaultBin) ∧
        ((∀ e ∈ s.sorter.bins, e.1 ≠ key) →
          exec (.binClear tag body) s = .next (s.setLink (s.link.answered 0x10 tag .notFound [])))))

/-- TALLY CLOSE (R156): refused under the power-fail warning or with the store's queue full; else the period record as the tally
stood is queued, the next period starts empty, and a checkpoint is asked for (R163).

PERIOD READ (R158): refused under the warning, for its fields, for the current period and for a number not kept; else the
queued record of that number, or the newest kept one.

The part (R157, R191): PRODUCT with a count of 1 to 64 or ACCOUNTS. The records kept (R158, R165): the valid period records with
fewer than 32 newer valid ones, newer by the sequence number alone (log entry 20). The reply's data (R157, R158, R190): as TALLY
READ's, without the fault marks, and with the lug number at the close last (log entry 23), with the number of bins held and a count
of those sent (log entry 54); a decimal counter is its saturation byte and its packed digits. That the sender looks at the end of the event is the model's choice (log entry 5). -/
def Obligations.PeriodsCloseAndReadBack : Prop :=
  (∀ (s : State) (tag : Byte), s.CanAnswer →
     (s.store.warned = true → exec (.tallyClose tag []) s = .next (s.setLink (s.link.answered 0x15 tag .notReady []))) ∧
     (s.store.warned = false → 4 ≤ s.store.queue.length →
       exec (.tallyClose tag []) s = .next (s.setLink (s.link.answered 0x15 tag .busy []))) ∧
     (s.store.warned = false → s.store.queue.length < 4 → ∃ t more, exec (.tallyClose tag []) s = .next t ∧
       t.store.queue = s.store.queue ++
         .period { period := s.tally.period, lug := s.chain.lug, body := s.tally.live.body } :: more ∧
       t.tally = { s.tally with
         period := if s.tally.period < 65535 then s.tally.period + 1 else 1, live := LiveTally.empty, accepted := 0 } ∧
       t.link = s.link.answered 0x15 tag .accepted [] ∧
       (s.store.queue = [] ∨ s.store.inFlight.isSome = true ∨ s.store.erasing.isSome = true →
         s.store.AskedBehind (.period { period := s.tally.period, lug := s.chain.lug, body := s.tally.live.body }) t.store) ∧
       s.sameBut t [.tally, .store, .link])) ∧
  (∀ (s : State) (tag : Byte) (body : List Byte), s.CanAnswer → body.length = 5 →
     let number := 256 * (body.getD 0 0).toNat + (body.getD 1 0).toNat
     let reply := fun code data => Host.Outcome.next (ρ := Refusal) (φ := Fault)
       (s.setLink (s.link.answered 0x16 tag code data))
     let queued := s.store.queue.filterMap StoreOp.periodRecord?
     (s.store.warned = true → exec (.periodRead tag body) s = reply .notReady []) ∧
     (s.store.warned = false → number = 0 ∨ tallyPart body 2 = none → exec (.periodRead tag body) s = reply .outOfRange []) ∧
     ∀ part, s.store.warned = false → number ≠ 0 → tallyPart body 2 = some part →
       (number = s.tally.period → exec (.periodRead tag body) s = reply .notFound []) ∧
       (∀ older r younger, number ≠ s.tally.period → queued = older ++ r :: younger → r.period = number →
         (∀ k ∈ younger, k.period ≠ number) → exec (.periodRead tag body) s = reply .accepted (encPeriod r part)) ∧
       (number ≠ s.tally.period → (∀ r ∈ queued, r.period ≠ number) → s.store.keptRecords number = [] →
         exec (.periodRead tag body) s = reply .notFound []) ∧
       ∀ x r, number ≠ s.tally.period → (∀ k ∈ queued, k.period ≠ number) → x ∈ s.store.keptRecords number →
         (∀ y ∈ s.store.keptRecords number, y ≠ x → y.seq.toNat < x.seq.toNat) → x.body = .period r →
         exec (.periodRead tag body) s = reply .accepted (encPeriod r part)) ∧
  (∀ (body : List Byte),
     let byte := fun n => (body.getD n 0).toNat
     (byte 2 = 0 → 1 ≤ byte 4 → byte 4 ≤ 64 → tallyPart body 2 = some (.product (byte 3) (byte 4))) ∧
     (byte 2 = 0 → byte 4 = 0 ∨ 64 < byte 4 → tallyPart body 2 = none) ∧
     (byte 2 = 1 → tallyPart body 2 = some .accounts) ∧ (1 < byte 2 → tallyPart body 2 = none)) ∧
  (∀ (x : Store) (number : Nat) (r : StoreRecord),
     let records := x.blocks.flatMap Block.records
     r ∈ x.keptRecords number ↔ r ∈ records ∧ r.valid = true ∧ (∃ p, r.body = .period p ∧ p.period = number) ∧
       (records.filter fun y => y.valid && y.isPeriod && decide (r.seq.toNat < y.seq.toNat)).length < 32) ∧
  (∀ (r : PeriodRecord) (first count : Nat),
     let account := fun a : Account => encCounter8 a.count ++ encCounter10 a.twelfths
     let sent := (r.body.bins.drop first).take count
     encPeriod r (.product first count) = bytesOf 2 r.period ++ bytesOf 2 r.body.bins.length ++ bytesOf 1 sent.length ++
       (sent.flatMap fun b => encKey b.key ++ bytesOf 1 b.width ++ encCounter8 b.pieces ++ encCounter10 b.twelfths) ++
       bytesOf 3 r.lug.toNat ∧
     encPeriod r .accounts = bytesOf 2 r.period ++ bytesOf 2 r.body.bins.length ++ encCounter8 r.body.chips ++
       encCounter8 r.body.missed ++ encCounter8 r.body.lost ++ account r.body.overflow ++ account r.body.unattributed ++
       (r.body.classes.flatMap fun c => encCounter8 c.logs ++ encCounter10 c.volume ++ encCounter8 c.boards ++
         encCounter10 c.twelfths) ++ bytesOf 3 r.lug.toNat) ∧
  ∀ c : Counter,
    let packed := fun size => (List.range size).map fun i =>
      BitVec.ofNat 8 (16 * (c.value / 100 ^ (size - 1 - i) / 10 % 10) + c.value / 100 ^ (size - 1 - i) % 10)
    encCounter8 c = markByte c.saturated ++ packed 4 ∧ encCounter10 c = markByte c.saturated ++ packed 5

/-- The other reads answer with the state as it stands and change nothing (R15, R86, R108, R144, R151, R157, R184).

STATUS (R184): the thirteen sections by number and length, with the chain-run level sampled by the command (log entry 3), and in
each section its block's fields in the order of its rule (R15, R30, R50, R69, R88, R111, R128, R141, R145, R159, R169, R177). FRAME READ (R86): the generation number, the
frames oldest first with owner and entries, a HOLD frame's code, reload value and remaining count, and the 27 effective values.
PRICE READ (R108): the entries of the range; OUT_OF_RANGE for a bad range. TALLY READ (R157): the bins of the range, or the
accounts with the fault marks; OUT_OF_RANGE for another part or a count that is not 1 to 64. ORDER READ and BIN READ (R151, R144):
the tables. The layouts rest on log entries 20, 22, 23, 37, 41, 42, 46, 47 and 53 to 56, the moment at which the transmitter looks on entry 5. -/
def Obligations.ReadRequestsChangeNothing : Prop :=
  (∀ (s : State) (tag : Byte), s.CanAnswer →
     let reply := fun type data => Host.Outcome.next (ρ := Refusal) (φ := Fault)
       (s.setLink (s.link.answered type tag .accepted data))
     let refused := fun type => Host.Outcome.next (ρ := Refusal) (φ := Fault)
       (s.setLink (s.link.answered type tag .outOfRange []))
     let stationOf := fun o => match o with
       | StationId.a => 1#8
       | StationId.b => 2#8
     let entry := fun n v => bytesOf 1 n ++ bytesOf 1 v
     let bins := s.tally.live.body.bins
     let body := s.tally.live.body
     let account := fun a : Account => encCounter8 a.count ++ encCounter10 a.twelfths
     (∀ run, let u := (s.setPins { s.pins with chainRun := run }).setLink s.link.frameIn
       let sections := [statusChain u, statusLogs u, statusScan u, statusTrack u, statusFrames u, statusSolver u,
         statusStations u, statusTrimmer u, statusSorter u, statusTally u, statusStore u, statusWatch u, statusLink u]
       exec (.status tag [] run) s = .next ((s.setPins { s.pins with chainRun := run }).setLink (s.link.answered 0x01 tag
         .accepted ((sections.zipIdx.map fun p => bytesOf 1 (p.2 + 1) ++ bytesOf 1 p.1.length ++ p.1).flatten)))) ∧
     exec (.frameRead tag []) s =
       reply 0x0B (bytesOf 2 s.frames.generation.toNat ++
         bytesOf 1 (1 + (if s.frames.run.isSome then 1 else 0) + s.frames.holds.length) ++
         ([0, 0] ++ bytesOf 1 27 ++ (List.range 27).flatMap fun n => entry n (s.frames.base.getD n 0)) ++
         (match s.frames.run with
           | none => []
           | some es => [1, 0] ++ bytesOf 1 es.length ++ es.flatMap fun e => entry e.1 e.2) ++
         (s.frames.holds.flatMap fun h => [2, stationOf h.owner] ++ bytesOf 1 1 ++ entry 25 h.ceiling ++ bytesOf 1 h.code ++
           bytesOf 2 h.timer.reload ++ bytesOf 2 h.timer.remaining) ++
         (List.range 27).flatMap fun n => bytesOf 1 (s.frames.effective n)) ∧
     (exec (.orderRead tag []) s =
       reply 0x0E (bytesOf 1 s.tally.orders.length ++ s.tally.orders.flatMap encOrder)) ∧
     (exec (.binRead tag []) s = reply 0x11 (bytesOf 1 s.sorter.defaultBin ++ bytesOf 1 s.sorter.bins.length ++
       s.sorter.bins.flatMap fun e => encKey e.1 ++ bytesOf 1 e.2)) ∧
     (∀ first count : Byte, let good := first.toNat ≤ 199 ∧ 1 ≤ count.toNat ∧ first.toNat + count.toNat ≤ 200
       let range := (s.solver.values.drop first.toNat).take count.toNat
       (good → exec (.priceRead tag [first, count]) s = reply 0x0A (bytesOf 1 range.length ++ range.flatMap
         fun v => encNamed v.state.number ++ bytesOf 2 (if v.state = .absent then 0 else v.value))) ∧
       (¬ good → exec (.priceRead tag [first, count]) s = refused 0x0A)) ∧
     (∀ first count : Byte, 1 ≤ count.toNat → count.toNat ≤ 64 → exec (.tallyRead tag [0, first, count]) s =
       reply 0x14 (bytesOf 2 s.tally.period ++ bytesOf 2 bins.length ++
         bytesOf 1 ((bins.drop first.toNat).take count.toNat).length ++
         ((bins.drop first.toNat).take count.toNat).flatMap encBin)) ∧
     (∀ first count : Byte, exec (.tallyRead tag [1, first, count]) s =
       reply 0x14 (bytesOf 2 s.tally.period ++ bytesOf 2 bins.length ++ encCounter8 body.chips ++ encCounter8 body.missed ++
         encCounter8 body.lost ++ account body.overflow ++ account body.unattributed ++
         (body.classes.flatMap fun c => encCounter8 c.logs ++ encCounter10 c.volume ++ encCounter8 c.boards ++
           encCounter10 c.twelfths) ++ encBool s.tally.live.fullFault ++ encBool s.tally.live.widthFault)) ∧
     ∀ part first count : Byte, 1 < part.toNat ∨ (part = 0 ∧ (count = 0 ∨ 64 < count.toNat)) →
       exec (.tallyRead tag [part, first, count]) s = refused 0x14) ∧
  (∀ u : State,
     let lug := fun l : Lug => bytesOf 3 l.toNat
     let lug? := fun l : Option Lug => withPresence (l.map lug)
     let counts := fun ns : List Nat => ns.flatMap (bytesOf 2)
     let c := u.chain
     let a := u.scan
     let boards := u.track.boards
     let v := u.solver
     let t := u.trimmer
     let x := u.sorter
     let m := u.store
     let erases := m.blocks.map Block.eraseCount
     let l := u.link
     statusChain u = lug c.lug ++ counts [c.phase, c.backlash] ++ markByte c.aligned ++
       namedByte [.running, .stopped] c.line ++ markByte u.pins.lineStop ++ markByte u.pins.chainRun ++
       counts [c.slips, c.eyeMisses, c.encoderErrors, c.config.pulses, c.config.tolerance] ++
       [c.config.markA, c.config.markB, c.config.window, c.config.commit, c.config.deadline, c.config.sort].flatMap (bytesOf 1) ∧
     statusLogs u = bytesOf 1 u.logs.queue.length ++
       counts [u.logs.nextId, u.logs.shortRecords, u.logs.emptyRecords, u.logs.forcedCloses] ++
       (u.logs.queue.flatMap fun k => bytesOf 2 k.id ++ namedByte [.scanned, .sawing, .cut, .draining] k.state ++
         withPresence (k.announced.map (bytesOf 1)) ++ counts [k.seen, k.pending, k.doneCount] ++
         setBytes 1 [k.flags.filled, k.flags.clamped, k.flags.countMismatch, k.flags.short, k.flags.forced] ++
         withPresence (if k.timer.running then some (bytesOf 2 k.timer.remaining) else none)) ∧
     statusScan u = namedByte [.absent, .contextPending, .online, .offline] a.vision ++ [a.context] ++ bytesOf 1 a.misses ++
       counts (a.headMisses ++ a.badFrames ++
         [a.eyeDisagree, a.late, a.stale, a.visionFaults, a.visionMisses, a.unexpected]) ∧
     statusTrack u = bytesOf 1 boards.length ++ lug? (boards.head?.map Board.lug) ++ lug? (boards.getLast?.map Board.lug) ++
       ([BoardState.assembling, .solving, .solved, .committed, .accepted, .missed].flatMap fun st =>
         bytesOf 1 (boards.filter fun b => b.state = st).length) ++
       bytesOf 1 (boards.filter Board.commitDue).length ++ bytesOf 2 u.track.notCommitted ∧
     statusFrames u = bytesOf 2 u.frames.generation.toNat ++
       withPresence (u.frames.run.map fun entries => bytesOf 1 entries.length) ++
       ([StationId.a, .b].flatMap fun st =>
         let owned := u.frames.holds.filter fun h => h.owner = st
         bytesOf 1 owned.length ++ owned.flatMap fun h =>
           bytesOf 1 h.code ++ bytesOf 1 h.ceiling ++ bytesOf 2 h.timer.remaining) ∧
     statusSolver u = withPresence (v.run.map fun r => bytesOf 2 r.number ++ bytesOf 1 r.species ++ bytesOf 1 r.thickness ++
         bytesOf 1 r.classes.length ++ r.classes.flatMap fun k => bytesOf 1 k.1 ++ bytesOf 2 k.2) ++
       bytesOf 1 v.queue.length ++ bytesOf 1 v.highWater ++ lug? (v.inProgress.map Solve.lug) ++ bytesOf 2 v.completed ++
       ([ValueState.absent, .present, .withdrawn].flatMap fun st =>
         bytesOf 1 (v.values.filter fun e => e.state = st).length) ∧
     statusStations u = ([u.stationA, u.stationB].flatMap fun k => lug? k.selection ++ lug? k.last ++
       namedByte [.reload, .ignore] k.retrigger ++ bytesOf 1 k.output.length ++
       counts [k.records, k.syntaxCount, k.overruns, k.messagesLost]) ∧
     statusTrimmer u = namedByte [.interlocked, .pulsed] t.mode ++ bytesOf 1 t.width ++
       namedByte [.ready, .on, .recovering] t.phase ++ markByte u.pins.ack ++
       withPresence (t.presented.map fun k => lug k.lug ++ markByte (!t.onLines)) ++ lug? (t.staged.map Slot.lug) ++
       lug? (((t.presented.toList ++ t.staged.toList).filter Slot.again).head?.map Slot.lug) ++
       counts [t.accepted, t.overruns, t.deadlines, t.handshakeFaults, t.representations] ∧
     statusSorter u = (match x.strobe with
         | .idle => [0#8]
         | .strobing _ _ => [1#8]
         | .gap _ => [2#8]) ++
       markByte x.waiting.isSome ++ bytesOf 1 x.bins.length ++ bytesOf 1 x.defaultBin ++ counts [x.delivered, x.overruns] ∧
     statusTally u = counts [u.tally.period, u.tally.live.body.bins.length] ++ bytesOf 1 u.tally.orders.length ++
       bytesOf 1 (u.tally.orders.filter fun o => o.state = .filled).length ++ bytesOf 1 u.tally.accepted ++
       markByte u.tally.live.fullFault ++ markByte u.tally.live.widthFault ∧
     statusStore u = ([BlockState.free, .active, .full, .static].flatMap fun st =>
         bytesOf 2 (m.blocks.filter fun b => b.state = st).length) ++
       bytesOf 4 (erases.min?.getD 0) ++ bytesOf 4 (erases.max?.getD 0) ++
       withPresence ((m.blocks.find? fun b => b.state = .static).map fun b => bytesOf 4 b.eraseCount) ++
       markByte m.conditionFull ++ markByte m.warned ++ bytesOf 1 m.queue.length ++
       (m.queue.zipIdx.flatMap fun k => (match k.1 with
           | .checkpoint => [0#8]
           | .period _ => [1#8]
           | .settings _ => [2#8]
           | .relocate => [3#8]) ++ markByte (m.inFlight.isSome && decide (k.2 = 0))) ++
       markByte m.deferred ++ markByte m.relocationDue ++
       withPresence ((((m.blocks.flatMap Block.records).filter fun r => r.valid && r.isCheckpoint).map fun r =>
         r.seq.toNat).max?.map (bytesOf 4)) ++
       bytesOf 4 m.nextSeq.toNat ++ bytesOf 1 u.tally.interval ++ bytesOf 2 m.skipped ∧
     statusWatch u = (u.watch.slots.flatMap fun k => namedByte [.empty, .armed, .disarmed] k.state ++
         withPresence (k.program.map fun p => (match p.condition with
             | .log id => 0 :: bytesOf 3 id
             | .product key => [1, 0] ++ encKey key
             | .grade g => 2 :: bytesOf 3 g
             | .override st => [3, 0, 0] ++ namedByte [.a, .b, .either] st
             | .missed => [4, 0, 0, 0]
             | .chip => [5, 0, 0, 0]
             | .flags f g => [6] ++ setBytes 1 g.marks ++ setBytes 2 f.marks) ++
           namedByte [.solve, .commit, .report] p.point ++ namedByte [.localRun, .global] p.scope ++ markByte p.capture ++
           markByte p.oneShot) ++
         bytesOf 2 k.hits ++ lug? k.lastHit ++ markByte k.captureLost) ++
       bytesOf 1 u.watch.captures.length ++ bytesOf 2 u.watch.discarded ∧
     statusLink u = markByte l.framer.receiving ++ bytesOf 1 l.replies.length ++ bytesOf 1 l.notices.length ++
       counts ([l.checkFails, l.badLengths, l.brokenFrames, l.replyOverruns, l.droppedSince, l.reportsDropped,
         l.noticesDropped] ++ l.scannerFails)) ∧
  (∀ key : ProductKey, key.Proper → ∃ hi lo : Byte, encKey key = [hi, lo] ∧ wireKey hi lo = key) ∧
  (∀ o : Order, encOrder o = encKey o.key ++ bytesOf 5 o.target ++ encCounter10 o.filled ++
     namedByte [.isOpen, .filled] o.state ++ match o.action with
       | .exclude => [0, 0]
       | .discount d => [1, 1] ++ bytesOf 1 d) ∧
  ∀ b : TallyBin, encBin b = encKey b.key ++ bytesOf 1 b.width ++ encCounter8 b.pieces ++ encCounter10 b.twelfths

/-- Every step keeps the product tally in order (R147): at most 256 bins, each key once, each bin's twelfths its pieces times the
volume of its key at its width. -/
def Obligations.EveryStepKeepsTheProductTally : Prop :=
  ∀ (s t : State), s.ProductTallyOk → step s = .next t → t.ProductTallyOk

/-! ### Chapter 10: the tally store -/

/-- A store write completes (R161, R164, R162): the record stands in its block and in no other, the operation leaves the queue,
and the store goes on. A completion that names no operation in flight changes nothing (log entry 7).

A settings write into a new STATIC block, and a relocation, complete (R164, R166): the new block holds the record and is
STATIC; the former one has lost its records and been erased once more.

A checkpoint or period write that begins with no room in the ACTIVE block and no FREE block is not made (R161); it completes
unwritten, a NORMAL condition becomes FULL with its STORE_FULL notice, at the completion (log entry 16), and a checkpoint counts as
skipped. A settings write not made is reported, and the condition stays (log entry 19).

Where a write begins: a journal record in the ACTIVE block with room, else in the least worn FREE block, which becomes ACTIVE, the
former one FULL (R161); a settings record in the STATIC block with room, else in the most worn FREE block (R164); a relocation's copy
of the newest settings in the most worn FREE block (R166; a tie, log entry 34), which counts as FREE until the record stands (log
entry 52), with no copy when the test no longer holds, or when
no block is FREE, which sets the relocation-due mark. The test of R166 made at a completion (log entry 18): a relocation wanted and
not queued is queued when a block is FREE, the queue has room and no checkpoint is deferred, else it is due.

Every completion, of each of the four operations, written or not, is followed by the reclaim of R165: the reclaimable block with the
lowest number is erased, and nothing begins before that erase. With none, a deferred checkpoint is queued, joined to one that waits,
or dropped and counted, and its mark cleared, then a due relocation is queued and its mark cleared, then the oldest operation
begins (R162; log entries 18 and 51). An erase still running goes on, and the reclaim is made after it (log entry 18). -/
def Obligations.StoreWriteCompletes : Prop :=
  (∀ (s : State) (c : Instr) (op : StoreOp) (rest : List StoreOp), s.powered = true → s.Settled →
     (c = .checkpointWriteDone ∧ op = .checkpoint) ∨ (c = .periodWriteDone ∧ ∃ r, op = .period r) ∨
       (c = .settingsWriteDone ∧ ∃ i, op = .settings i) ∨ (c = .relocateStaticDone ∧ op = .relocate) →
     (s.store.inFlight = none → exec c s = .next s) ∧
     ∀ w, s.store.queue = op :: rest → s.store.inFlight = some { write := some w } → w.newStatic = false →
       ∃ t more, exec c s = .next t ∧ t.store.queue = rest ++ more ∧
         t.store.blocks.map Block.records =
           (s.store.blocks.map Block.records).modify w.block (fun l => l ++ [w.record]) ∧
         t.store.blocks.map Block.eraseCount = s.store.blocks.map Block.eraseCount ∧
         t.store.conditionFull = s.store.conditionFull ∧
         (s.store.erasing = none → ∀ next, { s.store with blocks := s.store.withRecord w }.LowestReclaimable 0 next →
           t.store.erasing = next) ∧
         (t.store.queue = [] ∨ t.store.inFlight.isSome = true ∨ t.store.erasing.isSome = true) ∧ s.sameBut t [.store] ∧
         ∀ (i : Nat) (b x : Block), s.store.blocks[i]? = some b → b.state = .static →
           (∀ (k : Nat) (y : Block), k < i → s.store.blocks[k]? = some y → y.state ≠ .static) →
           x ∈ s.store.blocks → b.eraseCount + 200 < x.eraseCount →
           ((∃ y ∈ s.store.blocks, y.state = .free) → rest.length < 4 → s.store.deferred = false → .relocate ∈ t.store.queue) ∧
           (.relocate ∉ rest → (∀ y ∈ s.store.blocks, y.state ≠ .free) → t.store.relocationDue = true)) ∧
  (∀ (s : State) (op : StoreOp) (rest : List StoreOp), s.store.inFlight = none → s.store.erasing = none →
     s.store.queue = op :: rest →
     let blocks := s.store.blocks
     let writing := fun (blocks : List Block) (block : Nat) (body : StoreBody) (newStatic : Bool) =>
       s.setStore { s.store with
         blocks := blocks, nextSeq := s.store.nextSeq + 1,
         inFlight := some { write := some {
           block := block, newStatic := newStatic,
           record := { body := body, seq := s.store.nextSeq, mark := true,
                       check := Config.checkWord body.kind s.store.nextSeq body } } } }
     let nothing := s.setStore { s.store with inFlight := some { write := none } }
     let first := fun (state : BlockState) (i : Nat) (b : Block) => blocks[i]? = some b ∧ b.state = state ∧
       ∀ k x, k < i → blocks[k]? = some x → x.state ≠ state
     let absent := fun state : BlockState => ∀ x ∈ blocks, x.state ≠ state
     let fits := fun (b : Block) (body : StoreBody) => b.used + recordSpace (bodyBytes body) ≤ Config.blockBytes
     let least := fun (j : Nat) (b : Block) => blocks[j]? = some b ∧ b.state = .free ∧ ∀ k x, blocks[k]? = some x →
       x.state = .free → b.eraseCount < x.eraseCount ∨ (b.eraseCount = x.eraseCount ∧ j ≤ k)
     let most := fun (j : Nat) (b : Block) => blocks[j]? = some b ∧ b.state = .free ∧ ∀ k x, blocks[k]? = some x →
       x.state = .free → x.eraseCount < b.eraseCount ∨ (b.eraseCount = x.eraseCount ∧ j ≤ k)
     (∀ body, (op = .checkpoint ∧ body = .checkpoint
           { period := s.tally.period, lug := s.chain.lug, live := s.tally.live, orders := s.tally.orders }) ∨
         (∃ r, op = .period r ∧ body = .period r) →
       (∀ i b, first .active i b → fits b body → s.beginStoreOp = writing blocks i body false) ∧
       (∀ i a j b, first .active i a → ¬ fits a body → least j b → s.beginStoreOp =
         writing ((blocks.set i { a with state := .full }).set j { b with state := .active }) j body false) ∧
       (∀ j b, absent .active → least j b → s.beginStoreOp = writing (blocks.set j { b with state := .active }) j body false)) ∧
     (∀ image, op = .settings image →
       (∀ i b, first .static i b → fits b (.settings image) → s.beginStoreOp = writing blocks i (.settings image) false) ∧
       ((∀ i b, first .static i b → ¬ fits b (.settings image)) →
         (∀ j b, most j b → s.beginStoreOp = writing (blocks.set j { b with role := .static }) j (.settings image) true) ∧
         (absent .free → s.beginStoreOp = nothing))) ∧
     (op = .relocate →
       (absent .static → s.beginStoreOp = nothing) ∧
       ∀ i b, first .static i b →
         ((∀ x ∈ blocks, x.eraseCount ≤ b.eraseCount + 200) → s.beginStoreOp = nothing) ∧
         ((∃ x ∈ blocks, b.eraseCount + 200 < x.eraseCount) →
           (absent .free →
             s.beginStoreOp = s.setStore { s.store with inFlight := some { write := none }, relocationDue := true }) ∧
           ∀ j f r image, most j f → (∃ y ∈ blocks, r ∈ y.records) → r.valid = true → r.body = .settings image →
             (∀ y ∈ blocks, ∀ o ∈ y.records, o.valid = true → o.isSettings = true → o ≠ r → o.seq.toNat < r.seq.toNat) →
             s.beginStoreOp = writing (blocks.set j { f with role := .static }) j (.settings image) true))) ∧
  (∀ (x : Store) (i : Nat) (b : Block), x.blocks[i]? = some b → b.state = .static →
     (∀ k y, k < i → x.blocks[k]? = some y → y.state ≠ .static) →
     let wanted := ∃ y ∈ x.blocks, b.eraseCount + 200 < y.eraseCount
     let possible := (∃ y ∈ x.blocks, y.state = .free) ∧ x.queue.length < 4 ∧ x.deferred = false
     (¬ wanted ∨ .relocate ∈ x.queue → x.testRelocation = x) ∧
     (wanted → .relocate ∉ x.queue → possible →
       x.testRelocation = { x with queue := x.queue ++ [.relocate], relocationDue := false }) ∧
     (wanted → .relocate ∉ x.queue → ¬ possible → x.testRelocation = { x with relocationDue := true })) ∧
  (∀ x : Store, (∀ b ∈ x.blocks, b.state ≠ .static) → x.testRelocation = x) ∧
  (∀ s : State, s.store.inFlight.isSome = true ∨ s.store.erasing.isSome = true ∨ s.store.queue = [] → s.beginStoreOp = s) ∧
  (∀ (s : State) (c : Instr) (op : StoreOp) (rest : List StoreOp) (write : Option FlashWrite), s.powered = true →
     s.Settled → (c = .checkpointWriteDone ∧ op = .checkpoint) ∨ (c = .periodWriteDone ∧ ∃ r, op = .period r) ∨
       (c = .settingsWriteDone ∧ ∃ i, op = .settings i) ∨ (c = .relocateStaticDone ∧ op = .relocate) →
     s.store.queue = op :: rest → s.store.inFlight = some { write := write } →
     let done := s.operationDone op rest write
     let tested := done.setStore done.store.testRelocation
     (s.store.erasing = none → ∃ u, tested.GoesOn 0 u ∧ exec c s = .next u.takeUp) ∧
     (s.store.erasing.isSome = true →
       exec c s = .next (tested.setStore { tested.store with reclaimAgain := true }).takeUp)) ∧
  (∀ (s : State) (c : Instr) (op : StoreOp) (rest : List StoreOp) (w : FlashWrite) (b : Block), s.powered = true →
     s.Settled → (c = .settingsWriteDone ∧ ∃ i, op = .settings i) ∨ (c = .relocateStaticDone ∧ op = .relocate) →
     s.store.queue = op :: rest → s.store.inFlight = some { write := some w } → w.newStatic = true →
     s.store.blocks[w.block]? = some b → s.store.staticBlock ≠ some w.block →
     ∃ t b' more, exec c s = .next t ∧ t.store.queue = rest ++ more ∧ t.store.conditionFull = s.store.conditionFull ∧
       t.store.blocks[w.block]? = some b' ∧ b'.state = .static ∧
       b'.records = b.records ++ [w.record] ∧ b'.eraseCount = b.eraseCount ∧
       t.store.blocks.length = s.store.blocks.length ∧
       (∀ i k, i ≠ w.block → s.store.staticBlock ≠ some i → s.store.blocks[i]? = some k →
         ∃ k', t.store.blocks[i]? = some k' ∧ k'.records = k.records ∧ k'.eraseCount = k.eraseCount) ∧
       (∀ i k, s.store.staticBlock = some i → s.store.blocks[i]? = some k →
         ∃ k', t.store.blocks[i]? = some k' ∧ k'.records = [] ∧ k'.eraseCount = k.eraseCount + 1 ∧ k'.state ≠ .static) ∧
       s.sameBut t [.store]) ∧
  (∀ (s : State) (op : StoreOp) (rest : List StoreOp), s.store.inFlight = none → s.store.erasing = none →
     s.store.queue = op :: rest → op = .checkpoint ∨ (∃ r, op = .period r) →
     (∀ b ∈ s.store.blocks, b.state ≠ .free) →
     (∀ b ∈ s.store.blocks, b.state = .active → ∀ size, size = (match op with
         | .period r => recordSpace (bodyBytes (.period r))
         | _ => recordSpace (bodyBytes (.checkpoint s.snapshot))) → Config.blockBytes < b.used + size) →
     s.beginStoreOp = s.setStore { s.store with inFlight := some { write := none } }) ∧
  ∀ (s : State) (c : Instr) (op : StoreOp) (rest : List StoreOp) (kind : RecordKind), s.powered = true → s.Settled →
    (c = .checkpointWriteDone ∧ op = .checkpoint ∧ kind = .checkpoint) ∨
      (c = .periodWriteDone ∧ (∃ r, op = .period r) ∧ kind = .period) ∨
      (c = .settingsWriteDone ∧ (∃ i, op = .settings i) ∧ kind = .settings) →
    s.store.queue = op :: rest → s.store.inFlight = some { write := none } →
    ∃ t more, exec c s = .next t ∧ t.store.queue = rest ++ more ∧
      t.store.blocks.map Block.records = s.store.blocks.map Block.records ∧
      t.store.blocks.map Block.eraseCount = s.store.blocks.map Block.eraseCount ∧
      t.store.conditionFull = (if kind = .settings then s.store.conditionFull else true) ∧
      t.link = (if kind = .settings ∨ s.store.conditionFull = false then
        (s.link.queueNotice (.fault (.storeFull kind s.chain.lug))).takeUp else s.link) ∧
      (s.store.deferred = false → t.store.skipped =
        if kind = .checkpoint then min (s.store.skipped + 1) 65535 else s.store.skipped) ∧
      s.sameBut t [.store, .link]

/-- A reclaim erase completes (R165): the block is emptied and the condition NORMAL, or, reported as failed, it keeps its
records (log entry 34); its erase count rises either way. The next reclaimable block follows, or the first one when another reclaim
was asked for during the erase (log entry 18), once the relocation test is made (R166).

At the last erase of a reclaim, with no operation in flight, a deferred checkpoint is dealt with and its mark cleared, then a due
relocation is queued and its mark cleared, then the oldest operation begins (R162; log entries 18 and 51).

A block is reclaimable (R165) when it is FULL and none of its valid records is the newest valid checkpoint, one of the 32 newest
valid period records, or the newest valid settings record; newer is read from the sequence number alone (log entry 20). -/
def Obligations.ReclaimEraseEmptiesTheBlock : Prop :=
  (∀ (blocks : List Block) (b : Block), b ∈ blocks →
     let newer := fun (kind : StoreRecord → Bool) (r : StoreRecord) =>
       (blocks.flatMap Block.records).filter fun x => x.valid && kind x && decide (r.seq.toNat < x.seq.toNat)
     (reclaimable blocks b = true ↔ b.state = .full ∧ ∀ r ∈ b.records, r.valid = true →
       (∀ c, r.body = .checkpoint c → newer StoreRecord.isCheckpoint r ≠ []) ∧
       (∀ p, r.body = .period p → 32 ≤ (newer StoreRecord.isPeriod r).length) ∧
       (∀ x, r.body = .settings x → newer StoreRecord.isSettings r ≠ []))) ∧
  ∀ (s : State) (i : Nat) (b : Block), s.powered = true → s.Settled → s.power = .ready ∨ s.start.restored = true →
    s.store.erasing = some i → s.store.blocks[i]? = some b →
    let next := fun (t : State) (blocks : List Block) => ∀ (j : Nat) (k : Block),
      (if s.store.reclaimAgain then 0 else i + 1) ≤ j → blocks[j]? = some k → reclaimable blocks k = true →
      (∀ m x, (if s.store.reclaimAgain then 0 else i + 1) ≤ m → m < j → blocks[m]? = some x → reclaimable blocks x = false) →
      t.store.erasing = some j ∧ t.store.reclaimAgain = false ∧ t.store.blocks = blocks
    (∃ t b', exec (.reclaimEraseDone false) s = .next t ∧ t.store.blocks[i]? = some b' ∧ b'.records = [] ∧
      b'.eraseCount = b.eraseCount + 1 ∧ t.store.conditionFull = false ∧
      next t (s.store.blocks.set i
        { headerOk := true, eraseCount := b.eraseCount + 1, role := .journal, records := [], state := .free }) ∧
      s.sameBut t [.store]) ∧
    (∃ t b', exec (.reclaimEraseDone true) s = .next t ∧ t.store.blocks[i]? = some b' ∧ b'.records = b.records ∧
      b'.eraseCount = b.eraseCount + 1 ∧ t.store.conditionFull = s.store.conditionFull ∧
      next t (s.store.blocks.set i { b with eraseCount := b.eraseCount + 1 }) ∧ s.sameBut t [.store]) ∧
    ∀ failed : Bool,
      let block : Block := if failed then { b with eraseCount := b.eraseCount + 1 } else
        { headerOk := true, eraseCount := b.eraseCount + 1, role := .journal, records := [], state := .free }
      let x : Store := { s.store with
        blocks := s.store.blocks.set i block, erasing := none, reclaimAgain := false,
        conditionFull := if failed then s.store.conditionFull else false }
      ∃ u, (s.setStore x.testRelocation).GoesOn (if s.store.reclaimAgain then 0 else i + 1) u ∧
        exec (.reclaimEraseDone failed) s = .next u.takeUp

/-- The power-fail warning (R167): WARNED with one checkpoint asked for; an assertion in WARNED changes the level alone; a release
makes the state NORMAL. In STARTING only the level counts.

A checkpoint request (R163), by the queue as it stands: joined to a waiting write checkpoint; deferred by a full queue; dropped with
the skipped count while the condition is FULL, when reclaim is tried (R161, R165) and the erase of the lowest reclaimable block
begins, or none when there is no such block; else queued, and in an idle store begun with the snapshot of that moment. One in
flight takes no request. That a reclaim runs while an operation is in flight, and that one asked for during an erase follows it
(`reclaimAgain`), is the model's reading (log entry 18). -/
def Obligations.PowerFailWarningAsksForACheckpoint : Prop :=
  (∀ (s : State),
     let asserted := s.setPins { s.pins with powerFail := true }
     let released := s.setPins { s.pins with powerFail := false }
     (s.Attentive → s.store.warned = false → ∃ t, exec .powerFailWarning s = .next t ∧ t.pins = asserted.pins ∧
       t.store.warned = true ∧
       t.store = (s.setStore { s.store with warned := true }).requestCheckpoint.store ∧ t.store.blocks.map Block.records = s.store.blocks.map Block.records ∧
       (s.store.queue = [] → s.store.inFlight = none → s.store.erasing = none → s.store.conditionFull = false →
         t.store.queue = [.checkpoint] ∧ t.store.inFlight.isSome = true) ∧ s.sameBut t [.pins, .store]) ∧
     (s.Attentive → s.store.warned = true → exec .powerFailWarning s = .next asserted) ∧
     (s.Attentive → exec .powerFailRelease s = .next (released.setStore { s.store with warned := false })) ∧
     (∀ cause, s.power = .starting cause →
       exec .powerFailWarning s = .next asserted ∧ exec .powerFailRelease s = .next released)) ∧
  ∀ (s : State),
    let waiting := if s.store.inFlight.isSome then s.store.queue.tail else s.store.queue
    (.checkpoint ∈ waiting → s.requestCheckpoint = s) ∧
    (.checkpoint ∉ waiting → 4 ≤ s.store.queue.length →
      s.requestCheckpoint = s.setStore { s.store with deferred := true }) ∧
    (.checkpoint ∉ waiting → s.store.queue.length < 4 → s.store.conditionFull = true → ∃ erasing again,
      s.requestCheckpoint = s.setStore { s.store with
        skipped := min (s.store.skipped + 1) 65535, erasing := erasing, reclaimAgain := again } ∧
      (s.store.erasing.isSome = true → erasing = s.store.erasing ∧ again = true) ∧
      (s.store.erasing = none → again = s.store.reclaimAgain) ∧
      (s.store.erasing = none → (∀ k ∈ s.store.blocks, reclaimable s.store.blocks k = false) → erasing = none) ∧
      (∀ j k, s.store.erasing = none → s.store.blocks[j]? = some k → reclaimable s.store.blocks k = true →
        (∀ m x, m < j → s.store.blocks[m]? = some x → reclaimable s.store.blocks x = false) → erasing = some j)) ∧
    (.checkpoint ∉ waiting → s.store.queue.length < 4 → s.store.conditionFull = false →
      (s.requestCheckpoint).store.queue = s.store.queue ++ [.checkpoint] ∧ s.sameBut s.requestCheckpoint [.store] ∧
      (s.store.inFlight.isSome = true ∨ s.store.erasing.isSome = true →
        s.requestCheckpoint = s.setStore { s.store with queue := s.store.queue ++ [.checkpoint] }) ∧
      (s.store.queue = [] → s.store.inFlight = none → s.store.erasing = none → ∃ f, s.requestCheckpoint.store.inFlight = some f ∧
        ∀ w, f.write = some w → w.record.seq = s.store.nextSeq ∧ w.record.body = .checkpoint
          { period := s.tally.period, lug := s.chain.lug, live := s.tally.live, orders := s.tally.orders }))

/-- A loss of the supply and an assertion of RESET (R160, R165, R167, R186): nothing but the flash, the pins and the waiting commands
is kept; every block stands as at power-on, with the built-in settings and an empty tally, and nothing is sent or driven.

The flash: the record in flight is torn, unless its completion mark was written; a block being erased has lost its records, and its
header when the cut says so; so has the former STATIC block when the record of the new one stands; every other record stands. How
far the flash had come is the command's operand (log entries 14, 15, 26).

A record is valid exactly when its completion mark is present and its check word is that of its kind, sequence number and body (R160;
the function is left free, log entry 49); a torn one is passed over by the searches for the newest records, by PERIOD READ's and by
reclaim's. -/
def Obligations.CutTearsTheRecordInFlight : Prop :=
  (∀ (s : State) (cut : FlashCut), s.powered = true →
    ∀ c p pins, (c = .powerLoss cut ∧ p = .off ∧ pins = s.pins) ∨
        (c = .resetAssertion cut ∧ p = .resetHeld ∧ pins = { s.pins with reset := true }) →
      ∃ t, exec c s = .next t ∧ t.power = p ∧ t.pins = pins ∧ t.pending = s.pending ∧ t.track.boards = [] ∧
        t.logs.queue = [] ∧ t.link.replies = [] ∧ t.link.notices = [] ∧ t.store.queue = [] ∧ t.store.inFlight = none ∧
        t.frames.run = none ∧ t.frames.holds = [] ∧
        t.trimmer.lines = { saws := 0, tag := 0, dv := false } ∧ t.sorter.lines = (0, 0, false) ∧
        t = State.initial p pins { restored := false, settingsSaved := false, outcome := .none } Settings.builtIn false
          { period := 1, live := LiveTally.empty, orders := [], accepted := 0, interval := Settings.builtIn.interval }
          (Store.initial t.store.blocks) s.pending ∧
        let erased := match s.store.erasing with
          | none => s.store.blocks
          | some i => s.store.blocks.modify i fun b => { b with
              headerOk := if cut.headerLost then false else b.headerOk, records := [] }
        (s.store.inFlight.bind InFlight.write = none → t.store.blocks = erased) ∧
        ∀ w, s.store.inFlight.bind InFlight.write = some w →
          let torn := erased.modify w.block fun b =>
            { b with records := b.records ++ [{ w.record with mark := cut.markWritten }] }
          let moving := w.newStatic = true ∧ cut.markWritten = true ∧ cut.headerLost = true
          (¬ moving ∨ s.store.staticBlock = none → t.store.blocks = torn) ∧
          ∀ i, moving → s.store.staticBlock = some i →
            t.store.blocks = torn.modify i fun b => { b with headerOk := false, records := [] }) ∧
  (∀ r : StoreRecord, r.valid = true ↔ r.mark = true ∧ r.check = Config.checkWord r.body.kind r.seq r.body) ∧
  ∀ (x : Store) (period : Nat),
    let sound := fun b : Block => { b with records := b.records.filter StoreRecord.valid }
    let blocks := x.blocks.map sound
    newestCheckpoint blocks = newestCheckpoint x.blocks ∧ newestPeriod blocks = newestPeriod x.blocks ∧
      newestSettings blocks = newestSettings x.blocks ∧
      ({ x with blocks := blocks } : Store).keptRecords period = x.keptRecords period ∧
      ∀ b, reclaimable blocks (sound b) = reclaimable x.blocks b

/-- A start, by power-on or by the release of RESET (R186, R187, R168): STARTING with its cause, every block at its power-on
values, the block table and the tally restored from the flash, whatever its headers. With nothing to reclaim (log entry 17) the
settings of the newest valid settings record or the built-in ones are taken at once, and the vision state follows the sample;
else the reclaim's first erase begins, and the settings are taken at its last one.

The restored table (R168 steps 1 to 4): a block with an unreadable header FREE at the highest erase count read, or at 0 when no
header is readable (the model's choice, log entry 57); the block of the newest valid settings record STATIC, another STATIC one
erased; the journal block of the highest sequence number ACTIVE if it has room for the largest record, the others that hold
records FULL; the next sequence number past the highest (log entry 20); a torn record counts among them (log entry 45).

The restored tally (R168 steps 5 and 6), by the newest valid checkpoint and period record found. -/
def Obligations.StartTakesTheNewestSettings : Prop :=
  (∀ (s : State) (vision : Bool) (c : Instr) (p : Power) (cause : ResetCause) (pins : Pins),
     (c = .powerOn vision ∧ p = .off ∧ cause = .powerOn ∧ pins = s.pins) ∨
       (c = .resetRelease vision ∧ p = .resetHeld ∧ cause = .reset ∧ pins = { s.pins with reset := false }) → s.power = p →
     let store := restoreStore s.store.blocks
     let saved := (newestSettings store.blocks).bind StoreRecord.settings?
     let i := saved.getD Settings.builtIn
     let tally := restoreTally ((newestCheckpoint store.blocks).bind StoreRecord.checkpoint?)
       ((newestPeriod store.blocks).bind StoreRecord.period?)
     let started := fun (restored saved : Bool) (i : Settings) (vision present : Bool) (store : Store) =>
       State.initial (.starting cause) { pins with visionPresent := present }
         { restored := restored, settingsSaved := saved, outcome := (tally i.interval).2 } i vision (tally i.interval).1 store
         s.pending
     ∃ t, exec c s = .next t ∧
       (∀ k, store.nextReclaim 0 = some k →
         t = started false false Settings.builtIn false vision { store with erasing := some k }) ∧
       (store.nextReclaim 0 = none → store.relocationWanted = false → t = started true saved.isSome i vision vision store) ∧
       (store.nextReclaim 0 = none → ∃ x, t = started true saved.isSome i vision vision x ∧
         x.blocks.map Block.records = store.blocks.map Block.records)) ∧
  (∀ (s : State) (cause : ResetCause) (failed : Bool), s.power = .starting cause → s.Settled → s.start.restored = false →
     s.store.erasing.isSome = true → ∃ t, exec (.reclaimEraseDone failed) s = .next t ∧
       (t.store.erasing.isSome = true → s.sameBut t [.store]) ∧
       (t.store.erasing = none →
         let saved := (newestSettings t.store.blocks).bind StoreRecord.settings?
         let i := saved.getD Settings.builtIn
         t.start = { s.start with restored := true, settingsSaved := saved.isSome } ∧
           t.chain = { s.chain with config := i.line } ∧ t.frames = { s.frames with base := i.base } ∧
           t.stationA = { s.stationA with retrigger := i.retriggerA } ∧
           t.stationB = { s.stationB with retrigger := i.retriggerB } ∧
           t.trimmer = { s.trimmer with mode := i.mode, width := i.width } ∧
           t.sorter = { s.sorter with bins := i.bins, defaultBin := i.defaultBin } ∧
           t.tally = { s.tally with interval := i.interval } ∧
           t.scan = { s.scan with vision := if s.pins.visionPresent then .contextPending else .absent } ∧
           s.sameBut t [.store, .start, .chain, .frames, .stationA, .stationB, .trimmer, .sorter, .tally, .scan])) ∧
  (∀ (blocks : List Block) (i : Nat) (b : Block), blocks[i]? = some b →
     let read := fun k : Block => k ∈ blocks ∧ k.headerOk = true
     let after := fun k : Block => (restoreStore blocks).blocks[i]? = some k
     (∀ n, b.headerOk = false → (∀ k, read k → k.eraseCount ≤ n) → (n = 0 ∨ ∃ k, read k ∧ k.eraseCount = n) →
       after { headerOk := true, eraseCount := n, role := .journal, records := [], state := .free }) ∧
     (∀ r ∈ b.records, b.headerOk = true → r.valid = true → r.isSettings = true →
       (∀ k, read k → ∀ x ∈ k.records, x.valid = true → x.isSettings = true → x.seq.toNat ≤ r.seq.toNat) →
       after { b with state := .static }) ∧
     (b.headerOk = true → b.role = .static → (∀ r ∈ b.records, r.valid = true → r.isSettings = true →
         ∃ k x, read k ∧ x ∈ k.records ∧ x.valid = true ∧ x.isSettings = true ∧ r.seq.toNat < x.seq.toNat) →
       after { headerOk := true, eraseCount := b.eraseCount + 1, role := .journal, records := [], state := .free }) ∧
     (b.headerOk = true → b.role = .journal → b.records = [] → after { b with state := .free }) ∧
     (b.headerOk = true → b.role = .journal → b.records ≠ [] →
       (∀ k, read k → k.role = .journal → ∀ r ∈ k.records, r.isSettings = false) →
       let top := ∃ r ∈ b.records, ∀ k, read k → k.role = .journal → ∀ x ∈ k.records, x.seq.toNat ≤ r.seq.toNat
       (top → b.hasRoom largestSpace = true → after { b with state := .active }) ∧
       (¬ (top ∧ b.hasRoom largestSpace = true) → after { b with state := .full })) ∧
     (∀ r ∈ b.records, b.headerOk = true → (∀ k, read k → ∀ x ∈ k.records, x.seq.toNat ≤ r.seq.toNat) →
       (restoreStore blocks).nextSeq = BitVec.ofNat 32 (r.seq.toNat + 1)) ∧
     ((∀ k, read k → k.records = []) → (restoreStore blocks).nextSeq = 1)) ∧
  ∀ (c : Checkpoint) (p : PeriodRecord) (n : Nat), 1 ≤ c.period → c.period ≤ 65535 → 1 ≤ p.period → p.period ≤ 65535 →
    let past := ∃ k, k < 32768 ∧ p.period = (c.period - 1 + k) % 65535 + 1
    let empty := LiveTally.empty
    let next := if p.period = 65535 then 1 else p.period + 1
    (past → restoreTally (some c) (some p) n =
      ({ period := next, live := empty, orders := c.orders, accepted := 0, interval := n }, .period)) ∧
    (¬ past → restoreTally (some c) (some p) n =
      ({ period := c.period, live := c.live, orders := c.orders, accepted := 0, interval := n }, .checkpoint)) ∧
    restoreTally (some c) none n =
      ({ period := c.period, live := c.live, orders := c.orders, accepted := 0, interval := n }, .checkpoint) ∧
    restoreTally none (some p) n = ({ period := next, live := empty, orders := [], accepted := 0, interval := n }, .period) ∧
    restoreTally none none n = ({ period := 1, live := empty, orders := [], accepted := 0, interval := n }, .none)

/-- STARTING ends (R187, R14, R141, R167): READY is the first notice, LINE STOPPED follows when the input is asserted, and the
inputs' levels decide the line state, the handshake phase and the power-fail state. STARTING does not end before its restore (log
entry 17).

A display of each station is queued as the state then stands (R122); at a station with no selection, no last board and no HOLD
frame, as STARTING leaves it, it is the empty display `D ---- H-` (R121), the one line queued, and its sending begins (the senders
look at the end of the event, log entry 5). -/
def Obligations.StartingEndsWithTheReadyNotice : Prop :=
  (∀ (s : State) (cause : ResetCause), s.power = .starting cause → s.start.restored = true → s.trimmer.phase = .ready →
     let ready := Notice.ready cause s.scan.vision s.start.settingsSaved s.start.outcome s.store.conditionFull s.tally.period
     ∃ t, exec .startingEnd s = .next t ∧ t.power = .ready ∧
       t.chain = { s.chain with line := if s.pins.lineStop then .stopped else .running } ∧
       t.store = { s.store with warned := s.pins.powerFail } ∧
       t.trimmer = { s.trimmer with
         phase := if s.trimmer.mode = .interlocked ∧ s.pins.ack = true then .recovering else .ready } ∧
       t.link = (if s.pins.lineStop then (s.link.queueNotice ready).queueNotice (.lineStopped s.chain.lug)
         else s.link.queueNotice ready).takeUp ∧
       (s.scan.vision = .absent → t.scan = s.scan) ∧
       (s.scan.vision = .contextPending → t.scan = { s.scan with contextsSent := s.scan.contextsSent ++
         [{ context := s.scan.context, species := s.solver.run.elim 0 Run.species,
            thickness := s.solver.run.elim 0 Run.thickness }] }) ∧
       (∀ st, (s.station st).Shows (t.displayLine st) (t.station st) ∧
         ((s.station st).selection = none → (s.station st).last = none → (∀ h ∈ s.frames.holds, h.owner ≠ st) →
           let empty : DisplayLine := { board := none, holds := [] }
           t.displayLine st = empty ∧ empty.text = textOf ['D', ' ', '-', '-', '-', '-', ' ', 'H', '-'] ∧
           ((s.station st).output = [] →
             t.station st = { s.station st with output := [.display empty], sending := true }))) ∧
       s.sameBut t [.power, .chain, .store, .trimmer, .link, .scan, .stationA, .stationB]) ∧
  ∀ (s : State) (cause : ResetCause), s.power = .starting cause → s.start.restored = false → exec .startingEnd s = .next s

/-- Once a valid checkpoint stands in the flash, one stands there after every step: through every operation, erase, loss of the
supply, reset and restore (R165). -/
def Obligations.EveryStepKeepsAValidCheckpoint : Prop :=
  ∀ (s t : State), s.CheckpointSafe → step s = .next t → t.CheckpointSafe

/-! ### Chapter 11: watches and capture -/

/-- WATCH SET and WATCH CLEAR (R170, R171): the slot armed as carried, or emptied; its count and marks at their first values; the
captures and the other slots kept; refused for a field out of range. The key of a PRODUCT condition is read by `wireKey`: its bit 3
is not read (the model's choice, log entry 21).

CAPTURE READ (R175): the oldest capture leaves the buffer with the reply, which ends in the number still held; an empty
buffer is refused NOT_FOUND. The bytes of a capture are `encCapture`'s, whose layout is the model's choice (log entry 43). That the transmitter looks at the end of the event is the model's choice (log entry 5).

A board handed to the Watch Unit (R173): the slots in number order. A slot is hit when it is ARMED for the point, not yet in the
board's watch-hit set, and the board meets its condition (R172): the mark is set in the set, the hit counted with the lug, the
capture stored or lost (R174), the WATCH HIT notice queued, a one-shot slot DISARMED; a slot not hit changes nothing. -/
def Obligations.WatchRequestsAndCaptureRead : Prop :=
  (∀ (s : State) (tag : Byte) (body : List Byte), s.CanAnswer →
     let byte := fun n => (body.getD n 0).toNat
     let slot := byte 0
     let operand := 256 * byte 3 + byte 4
     let key := wireKey (body.getD 3 0) (body.getD 4 0)
     let on := fun n : Nat => operand.testBit n
     let flags : BoardFlags × DecisionFlags :=
       ({ slipped := on 0, headMissing := on 1, clamped := on 2, geoOnly := on 3, noScan := on 4, runStraddle := on 5,
          notCommitted := on 6, trimOverrun := on 7, trimDeadline := on 8 },
        { noRun := (byte 2).testBit 0, noPrice := (byte 2).testBit 1, tableLimited := (byte 2).testBit 2,
          orderExcluded := (byte 2).testBit 3, orderDiscount := (byte 2).testBit 4 })
     let carries := fun c : Condition =>
       (byte 1 = 0 ∧ byte 2 = 0 ∧ 1 ≤ operand ∧ c = .log operand) ∨
       (byte 1 = 1 ∧ byte 2 = 0 ∧ key.Proper ∧ c = .product key) ∨
       (byte 1 = 2 ∧ byte 2 = 0 ∧ 1 ≤ operand ∧ operand ≤ 6 ∧ c = .grade operand) ∨
       (byte 1 = 3 ∧ byte 2 = 0 ∧ ((operand = 0 ∧ c = .override .a) ∨ (operand = 1 ∧ c = .override .b) ∨
         (operand = 2 ∧ c = .override .either))) ∨
       (byte 1 = 4 ∧ c = .missed) ∨ (byte 1 = 5 ∧ c = .chip) ∨
       (byte 1 = 6 ∧ operand < 512 ∧ byte 2 < 32 ∧ (0 < operand ∨ 0 < byte 2) ∧ c = .flags flags.1 flags.2)
     let good := slot ≤ 3 ∧ (∃ c, carries c) ∧ byte 5 ≤ 2 ∧ byte 6 ≤ 1 ∧ byte 7 ≤ 1 ∧ byte 8 ≤ 1 ∧ ¬ (byte 1 = 4 ∧ byte 5 = 0)
     (body.length = 9 → ¬ good →
       exec (.watchSet tag body) s = .next (s.setLink (s.link.answered 0x17 tag .outOfRange []))) ∧
     (∀ c, body.length = 9 → good → carries c → exec (.watchSet tag body) s =
       .next ((s.setWatch { s.watch with slots := s.watch.slots.modify slot fun _ =>
         { state := .armed, hits := 0, lastHit := none, captureLost := false, program := some {
             condition := c, point := if byte 5 = 0 then .solve else if byte 5 = 1 then .commit else .report,
             scope := if byte 6 = 0 then .localRun else .global, capture := decide (byte 7 = 1),
             oneShot := decide (byte 8 = 1) } } }).setLink (s.link.answered 0x17 tag .accepted []))) ∧
     (body.length = 1 → 3 < slot →
       exec (.watchClear tag body) s = .next (s.setLink (s.link.answered 0x18 tag .outOfRange []))) ∧
     (body.length = 1 → slot ≤ 3 → exec (.watchClear tag body) s =
       .next ((s.setWatch { s.watch with slots := s.watch.slots.modify slot fun _ =>
         { state := .empty, program := none, hits := 0, lastHit := none, captureLost := false } }).setLink
           (s.link.answered 0x18 tag .accepted [])))) ∧
  (∀ (s : State) (tag : Byte), s.CanAnswer →
     (s.watch.captures = [] →
       exec (.captureRead tag []) s = .next (s.setLink (s.link.answered 0x19 tag .notFound []))) ∧
     ∀ c rest, s.watch.captures = c :: rest → exec (.captureRead tag []) s =
       .next ((s.setWatch { s.watch with captures := rest }).setLink
         (s.link.answered 0x19 tag .accepted (encCapture c ++ bytesOf 1 rest.length)))) ∧
  (∀ (s : State) (point : Point) (lug : Lug), s.watchHand point lug =
     (((s.testSlot point lug 0).testSlot point lug 1).testSlot point lug 2).testSlot point lug 3) ∧
  (∀ (s : State) (point : Point) (lug : Lug) (k : Nat) (b : Board) (w : WatchSlot), s.board? lug = some b →
     s.watch.slots[k]? = some w →
     ((w.state ≠ .armed ∨ b.watchHits.getD k false = true ∨
         (∀ p, w.program = some p → p.point ≠ point ∨ b.meets p.condition = false)) → s.testSlot point lug k = s) ∧
     ∀ p, w.state = .armed → b.watchHits.getD k false = false → w.program = some p → p.point = point →
       b.meets p.condition = true →
       let t := s.testSlot point lug k
       let shown : Board := { b with watchHits := b.watchHits.set k true }
       let full := 8 ≤ s.watch.captures.length
       let hits := min (w.hits + 1) 65535
       t.board? lug = some shown ∧ (∀ l, l ≠ lug → t.board? l = s.board? l) ∧
         t.watch = { s.watch with
           slots := s.watch.slots.set k { w with
             hits := hits, lastHit := some lug, state := if p.oneShot then .disarmed else .armed,
             captureLost := if p.capture = true ∧ full then true else w.captureLost },
           captures := if p.capture = true ∧ ¬ full then
             s.watch.captures ++ [{ slot := k, point := point, lug := s.chain.lug, board := shown }] else s.watch.captures,
           discarded := if p.capture = true ∧ full then min (s.watch.discarded + 1) 65535 else s.watch.discarded } ∧
         t.link = s.link.queueNotice (.watchHit k point p.condition lug s.chain.lug hits
           (if p.capture = false then .none else if full then .lost else .stored)) ∧
         s.sameBut t [.track, .watch, .link]) ∧
  ∀ (b : Board),
    (∀ id, b.meets (.log id) = true ↔ b.logId = some id) ∧
    (∀ key, b.meets (.product key) = true ↔ ∃ d x, b.decision = some d ∧ d.piece = some x ∧ x.key = key) ∧
    (∀ g, b.meets (.grade g) = true ↔ ∃ d x, b.decision = some d ∧ d.piece = some x ∧ x.key.grade = g) ∧
    (∀ st, b.meets (.override st) = true ↔
      ∃ o, b.override = some o ∧ (st = .either ∨ (st = .a ∧ o.owner = .a) ∨ (st = .b ∧ o.owner = .b))) ∧
    (b.meets .missed = true ↔ b.state = .missed) ∧
    (b.meets .chip = true ↔ ∃ d, b.decision = some d ∧ d.piece = none) ∧
    ∀ (f : BoardFlags) (g : DecisionFlags), b.meets (.flags f g) = true ↔ (∃ n : Nat, b.flags.marks[n]? = some true ∧ f.marks[n]? = some true) ∨
      ∃ d, b.decision = some d ∧ ∃ n : Nat, d.flags.marks[n]? = some true ∧ g.marks[n]? = some true

/-! ### Chapter 12: the line link -/

/-- A good frame is dealt with in the order of R180: no room for its reply, STARTING, a type that is no request, a body length its
layout does not allow; in each case nothing but the Line Link changes. -/
def Obligations.FramesAreRefusedInOrder : Prop :=
  ∀ (s : State) (type tag : Byte) (body : List Byte), s.powered = true → s.Settled →
    let c := requestCommand type tag body s.pins.chainRun
    let full := 4 ≤ s.link.replies.length
    let known := 0x01 ≤ type.toNat ∧ type.toNat ≤ 0x1B
    (full → exec c s = .next (s.setLink { s.link.frameIn with replyOverruns := min (s.link.replyOverruns + 1) 65535 })) ∧
    (¬ full → s.power ≠ .ready → exec c s = .next (s.setLink (s.link.answered type tag .notReady []))) ∧
    (¬ full → s.power = .ready → ¬ known → exec c s = .next (s.setLink (s.link.answered type tag .unknownType []))) ∧
    (¬ full → s.power = .ready → known → ¬ lengthAllowed type.toNat body →
      exec c s = .next (s.setLink (s.link.answered type tag .badLength [])))

/-- SAVE SETTINGS (R185, R124, R140): its four refusals in their order; else the values carried are set, and the image of the
values in force is queued for the store, and a checkpoint is asked for (R163). -/
def Obligations.SaveSettingsQueuesTheImage : Prop :=
  ∀ (s : State) (tag a b m w v : Byte), s.CanAnswer →
    let refused := fun code => exec (.saveSettings tag [a, b, m, w, v]) s =
      .next (s.setLink (s.link.answered 0x04 tag code []))
    let good := a.toNat ≤ 1 ∧ b.toNat ≤ 1 ∧ m.toNat ≤ 1 ∧ 1 ≤ w.toNat ∧ 1 ≤ v.toNat
    let option := fun n : Byte => if n = 0 then Retrigger.reload else .ignore
    let mode := if m = 0 then Handshake.interlocked else .pulsed
    let occupied := s.trimmer.presented.isSome = true ∨ s.trimmer.staged.isSome = true ∨ s.trimmer.phase ≠ .ready
    let blocked := (mode ≠ s.trimmer.mode ∨ w.toNat ≠ s.trimmer.width) ∧ occupied
    let image : Settings := {
      line := s.chain.config, base := s.frames.base, retriggerA := option a, retriggerB := option b, mode := mode,
      width := w.toNat, bins := s.sorter.bins, defaultBin := s.sorter.defaultBin, interval := v.toNat }
    (s.store.warned = true → refused .notReady) ∧
    (s.store.warned = false → ¬ good → refused .outOfRange) ∧
    (s.store.warned = false → good → blocked ∨ 4 ≤ s.store.queue.length → refused .busy) ∧
    (s.store.warned = false → good → ¬ blocked → s.store.queue.length < 4 →
      ∃ t more, exec (.saveSettings tag [a, b, m, w, v]) s = .next t ∧
        t.stationA = { s.stationA with retrigger := option a } ∧ t.stationB = { s.stationB with retrigger := option b } ∧
        t.trimmer = { s.trimmer with
          mode := mode, width := w.toNat,
          phase := if s.trimmer.mode = .pulsed ∧ mode = .interlocked ∧ s.pins.ack = true then .recovering
            else s.trimmer.phase } ∧
        t.tally = { s.tally with interval := v.toNat, accepted := 0 } ∧
        t.store.queue = s.store.queue ++ .settings image :: more ∧
        (s.store.queue = [] ∨ s.store.inFlight.isSome = true ∨ s.store.erasing.isSome = true →
          s.store.AskedBehind (.settings image) t.store) ∧
        t.link = s.link.answered 0x04 tag .accepted [] ∧
        s.sameBut t [.stationA, .stationB, .trimmer, .tally, .store, .link])

/-- The senders (R181, R183, R114): when the last byte of a frame has gone, the frame leaves its queue and the oldest reply, else
the oldest notice under the next notice tag, begins, whether a reply or a notice has gone; a station's next line begins when one
has gone (log entries 5, 6). A BOARD REPORT that begins takes the reports-dropped-since-delivery count into its dropped field, and
the count becomes 0 (R183); any other notice begins as it stands and leaves the count.

The admission of a notice (R182): at the young end of a queue with room; with 64 notices a BOARD REPORT is dropped, and another
notice takes the place of the oldest BOARD REPORT whose sending has not begun, or is dropped when there is none; each is counted.

The bytes on the line (section 12.2, R178, R180, R181): a frame is the start byte, then length, type, tag, body and check, escaped. A
reply has its request's type with 80h added (modulo 256, log entry 36), the request's tag, and a body of the code's byte and the data.
A notice has its type of section 12.4, the notice tag, and the fields of its rule in the rule's order, encoded by R190 (log entry
22): a BOARD REPORT by its table of 32 bytes (with no decision, log entry 44), READY (R187; the outcome, log entry 56), LOG RECOVERY
(R27), ORDER FILLED (R152), HOLD (R83; the owner, log entry 37), WATCH HIT (R173), a FAULT by its kind, LINE STOPPED (R12). A number
stands in its bytes, the most significant first, a decimal counter in a saturation byte and two digits a byte (R190). The check is the
CRC of R178. A context record stands in five bytes (section 12.9). A line to a pendant is its text ended by a CR (section 7.3, R119;
the lug number of a message, log entry 40). -/
def Obligations.SendersTakeTheOldestNext : Prop :=
  (∀ (s : State), s.powered = true → s.Settled →
     let begins := fun (l t : Link) =>
       let sent := { l with sending := some (.notice l.noticeTag), noticeTag := l.noticeTag + 1 }
       (l.notices = [] → t = { l with sending := none }) ∧
       (∀ x more, l.notices = .boardReport x :: more →
         t = { sent with notices := .boardReport { x with dropped := l.droppedSince } :: more, droppedSince := 0 }) ∧
       (∀ x more, l.notices = x :: more → (∀ r, x ≠ .boardReport r) → t = sent)
     (∀ r rest, s.link.sending = some .reply → s.link.replies = r :: rest → ∃ t, exec .frameSent s = .next t ∧
       (rest ≠ [] → t.link = { s.link with replies := rest }) ∧
       (rest = [] → begins { s.link with replies := [] } t.link) ∧ s.sameBut t [.link]) ∧
     (∀ tag n rest, s.link.sending = some (.notice tag) → s.link.notices = n :: rest →
       ∃ t, exec .frameSent s = .next t ∧
         (s.link.replies ≠ [] → t.link = { s.link with notices := rest, sending := some .reply }) ∧
         (s.link.replies = [] → begins { s.link with notices := rest } t.link) ∧ s.sameBut t [.link]) ∧
     ∀ st l rest, (s.station st).output = l :: rest →
       exec (.stationLineSent st) s =
         .next (s.setStation st { s.station st with output := rest, sending := decide (rest ≠ []) })) ∧
  (∀ (l : Link) (n : Notice),
     let begun := match l.sending with
       | some (.notice _) => 1
       | _ => 0
     let report := fun x : Notice => ∃ r, x = .boardReport r
     (l.notices.length < 64 → l.queueNotice n = { l with notices := l.notices ++ [n] }) ∧
     (64 ≤ l.notices.length → report n → l.queueNotice n = { l with
       droppedSince := min (l.droppedSince + 1) 65535, reportsDropped := min (l.reportsDropped + 1) 65535 }) ∧
     (64 ≤ l.notices.length → ¬ report n → ∀ older x younger, l.notices = older ++ x :: younger → report x →
       begun ≤ older.length → (∀ y ∈ older.drop begun, ¬ report y) → l.queueNotice n = { l with
         notices := older ++ younger ++ [n], droppedSince := min (l.droppedSince + 1) 65535,
         reportsDropped := min (l.reportsDropped + 1) 65535 }) ∧
     (64 ≤ l.notices.length → ¬ report n → (∀ y ∈ l.notices.drop begun, ¬ report y) →
       l.queueNotice n = { l with noticesDropped := min (l.noticesDropped + 1) 65535 })) ∧
  (∀ (type tag : Byte) (body : List Byte),
     let content := bytesOf 2 body.length ++ type :: tag :: body
     wireFrame type tag body = 0x7E#8 :: (content ++ bytesOf 2 (crc16 content).toNat).flatMap fun b =>
       if b = 0x7E#8 ∨ b = 0x7D#8 then [0x7D#8, b ^^^ 0x20#8] else [b]) ∧
  (crc16 [] = 0xFFFF#16 ∧ ∀ (bs : List Byte) (b : Byte), crc16 (bs ++ [b]) =
     (fun c : BitVec 16 => if c.msb then (c <<< 1) ^^^ 0x1021#16 else c <<< 1)^[8] (crc16 bs ^^^ (b.setWidth 16 <<< 8))) ∧
  (∀ size n : Nat, bytesOf size n = (List.range size).map fun k => BitVec.ofNat 8 (n / 256 ^ (size - 1 - k))) ∧
  (∀ c : Counter,
     let digits := fun size => (List.range size).map fun k =>
       BitVec.ofNat 8 (c.value / 10 ^ (2 * (size - 1 - k) + 1) % 10 * 16 + c.value / 10 ^ (2 * (size - 1 - k)) % 10)
     encCounter8 c = markByte c.saturated ++ digits 4 ∧ encCounter10 c = markByte c.saturated ++ digits 5) ∧
  (∀ l : Link, l.sending = none → l.onTheLine = none) ∧
  (∀ (l : Link) (r : Reply) (rest : List Reply) (code : Byte), l.sending = some .reply → l.replies = r :: rest →
     (r.code, code) ∈ [(ReplyCode.accepted, 0x00#8), (.acceptedClamped, 0x01#8), (.unknownType, 0x80#8), (.badLength, 0x81#8),
       (.outOfRange, 0x82#8), (.noRun, 0x83#8), (.runOpen, 0x84#8), (.state, 0x85#8), (.tableFull, 0x86#8),
       (.notFound, 0x87#8), (.busy, 0x88#8), (.notReady, 0x89#8), (.stopped, 0x8A#8)] →
     l.onTheLine = some (wireFrame (r.type + 0x80) r.tag (code :: r.data))) ∧
  (let sends := fun (n : Notice) (type : Byte) (body : List Byte) => ∀ (l : Link) (tag : Byte) (rest : List Notice),
     l.sending = some (.notice tag) → l.notices = n :: rest → l.onTheLine = some (wireFrame type tag body)
   let lug := fun l : Lug => bytesOf 3 l.toNat
   let action := fun x : OrderAction => match x with
     | .exclude => [0, 0]
     | .discount d => [1, 1] ++ bytesOf 1 d
   let fault := fun (f : FaultNotice) (kind : Byte) (fields : List Byte) => sends (.fault f) 0x66 (kind :: fields)
   (∀ cause vision saved outcome full period, sends (.ready cause vision saved outcome full period) 0x60
     (namedByte [.powerOn, .reset] cause ++ namedByte [.absent, .contextPending, .online, .offline] vision ++
       markByte (!saved) ++ namedByte [.none, .checkpoint, .period] outcome ++ markByte full ++ bytesOf 2 period)) ∧
   (∀ r : BoardReport, r.final = .accepted ∨ r.final = .missed →
     let piece := r.decision.bind Decision.piece
     let trim := r.override.bind Override.trim
     let f := r.flags
     sends (.boardReport r) 0x61 (lug r.lug ++ bytesOf 2 (r.logId.getD 0) ++ bytesOf 2 (r.runAtSolve.getD 0) ++
       namedByte [.accepted, .missed] r.final ++
       (match r.decision, piece with
         | none, _ => [0]
         | some _, some _ => [1]
         | some _, none => [2]) ++
       (match piece with
         | some x => [x.p, x.q, x.key.length, x.key.grade, x.key.widthClass].flatMap (bytesOf 1)
         | none => [0xFF, 0xFF, 0, 0, 0]) ++
       (match r.decision with
         | some d => bytesOf 4 d.score ++ setBytes 2 ((List.range 11).map fun k => d.mask.getLsbD k)
         | none => [0, 0, 0, 0, 0, 0]) ++
       bytesOf 1 r.sort.bin ++ bytesOf 1 r.sort.stamp ++
       (match r.override.map Override.owner with
         | none => [0]
         | some .a => [1]
         | some .b => [2]) ++
       bytesOf 1 ((r.override.bind Override.grade).getD 0) ++
       (match trim with
         | some x => bytesOf 1 x.1 ++ bytesOf 1 x.2
         | none => [0xFF, 0xFF]) ++
       markByte (r.override.any Override.chip) ++
       setBytes 2 [f.slipped, f.headMissing, f.clamped, f.geoOnly, f.noScan, f.runStraddle, f.notCommitted, f.trimOverrun,
         f.trimDeadline] ++
       (match r.decision with
         | some d => setBytes 1 [d.flags.noRun, d.flags.noPrice, d.flags.tableLimited, d.flags.orderExcluded,
             d.flags.orderDiscount]
         | none => [0]) ++ bytesOf 2 r.dropped)) ∧
   (∀ r : Recovery, sends (.logRecovery r) 0x62 (bytesOf 2 r.id ++ bytesOf 1 r.figures.length ++ bytesOf 2 r.figures.sed ++
     bytesOf 2 r.figures.led ++ bytesOf 3 r.figures.volume ++ bytesOf 2 r.figures.taper ++
     bytesOf 1 r.figures.diameterClass ++ withPresence (r.announced.map (bytesOf 1)) ++
     [r.seen, r.pieces, r.chips, r.missedLost].flatMap (bytesOf 2) ++ bytesOf 4 r.twelfths ++ bytesOf 2 r.ratio ++
     setBytes 1 [r.flags.filled, r.flags.clamped, r.flags.countMismatch, r.flags.short, r.flags.forced])) ∧
   (∀ key target filled x board period, sends (.orderFilled key target filled x board period) 0x63 (encKey key ++
     bytesOf 5 target ++ encCounter10 filled ++ action x ++ withPresence (board.map lug) ++ bytesOf 2 period)) ∧
   (∀ cause owner code ceiling reload remaining now generation,
     sends (.hold cause owner code ceiling reload remaining now generation) 0x64
       (namedByte [.created, .expired, .cancelled, .runClosed] cause ++ namedByte [.a, .b] owner ++ bytesOf 1 code ++
         bytesOf 1 ceiling ++ bytesOf 2 reload ++ bytesOf 2 remaining ++ lug now ++ bytesOf 2 generation.toNat)) ∧
   (∀ slot point condition board now hits outcome, sends (.watchHit slot point condition board now hits outcome) 0x65
     (bytesOf 1 slot ++ namedByte [.solve, .commit, .report] point ++ (match condition with
         | .log _ => [0]
         | .product _ => [1]
         | .grade _ => [2]
         | .override _ => [3]
         | .missed => [4]
         | .chip => [5]
         | .flags _ _ => [6]) ++
       lug board ++ lug now ++ bytesOf 2 hits ++ namedByte [.stored, .lost, .none] outcome)) ∧
   (∀ now deviation early, fault (.lugSlip now deviation early) 1 (lug now ++ bytesOf 2 deviation ++ markByte early)) ∧
   (∀ n, fault (.logShort n) 2 (bytesOf 1 n) ∧ fault (.logEmpty n) 3 (bytesOf 1 n)) ∧
   (∀ now context, fault (.vision now context) 4 (lug now ++ [context]) ∧ fault (.visionOffline now) 5 (lug now)) ∧
   (∀ now tag, fault (.handshake now tag) 6 (lug now ++ bytesOf 1 tag.toNat)) ∧
   (∀ key period bin width, fault (.tallyFull key period) 7 (encKey key ++ bytesOf 2 period) ∧
     fault (.tallyWidth key bin width) 8 (encKey key ++ bytesOf 1 bin ++ bytesOf 1 width)) ∧
   (∀ kind now, fault (.storeFull kind now) 9 (namedByte [.checkpoint, .period, .settings] kind ++ lug now)) ∧
   ∀ now, sends (.lineStopped now) 0x67 (lug now)) ∧
  (∀ r : ContextRecord, let content := [r.context, BitVec.ofNat 8 r.species, BitVec.ofNat 8 r.thickness]
     r.wire = 0xA5#8 :: content ++ [r.context + BitVec.ofNat 8 r.species + BitVec.ofNat 8 r.thickness]) ∧
  (∀ (r : StationReply) (words : String), (r, words) ∈ [(StationReply.ok, "OK"), (.noSyntax, "NO SYNTAX"),
       (.noBoard, "NO NO BOARD"), (.noTooLate, "NO TOO LATE"), (.noWood, "NO NO WOOD"), (.noRun, "NO NO RUN"),
       (.noHoldFull, "NO HOLD FULL"), (.noHoldActive, "NO HOLD ACTIVE"), (.noNoHold, "NO NO HOLD")] →
     (StationLine.reply r).text = textOf words.toList ++ [0x0D#8]) ∧
  (∀ d : DisplayLine, (StationLine.display d).text = d.text ++ [0x0D#8]) ∧
  ∀ (lug : Lug) (taker : StationId), (StationLine.superseded lug taker).text =
    textOf "! SUPERSEDED ".toList ++ lugText lug ++ textOf [' ', if taker = .a then 'A' else 'B'] ++ [0x0D#8]

/-- Frames that the framer discards, and breaks (R178, R179): counted by their cause, with no reply and no other effect. A frame cut
off anywhere before its last check byte, after a held 7Dh as well, is a broken frame: by the start byte 7Eh of another, which starts
that frame at once, by a character with a framing error, or by a break. In HUNT a break, and every character but 7Eh, has no effect. -/
def Obligations.DiscardedFrameIsCounted : Prop :=
  ∀ (s : State) (type tag : Byte) (body : List Byte), s.powered = true → s.Settled → s.link.framer = Framer.hunt →
    body.length ≤ 1024 →
    let content := frameContent type tag body
    (∀ check : BitVec 16, check ≠ crc16 content →
      exec (.frameDiscarded ((0x7E#8 :: (content ++ bytesOf 2 check.toNat).flatMap escapeOne).map .byte)) s =
        .next (s.setLink { s.link with checkFails := min (s.link.checkFails + 1) 65535 })) ∧
    (∀ hi lo : Byte, 1024 < 256 * hi.toNat + lo.toNat →
      exec (.frameDiscarded ((0x7E#8 :: [hi, lo].flatMap escapeOne).map .byte)) s =
        .next (s.setLink { s.link with badLengths := min (s.link.badLengths + 1) 65535 })) ∧
    (∀ (check : BitVec 16) (part rest : List Byte), content ++ bytesOf 2 check.toNat = part ++ rest → rest ≠ [] →
      ∀ held ∈ [[], [RxChar.byte 0x7D#8]],
        let start := RxChar.byte 0x7E#8
        let cut := start :: (part.flatMap escapeOne).map .byte ++ held
        let broken : Link := { s.link with brokenFrames := min (s.link.brokenFrames + 1) 65535 }
        exec (.frameDiscarded (cut ++ [start])) s =
          .next (s.setLink { broken with framer := { receiving := true, buffer := [], escaped := false } }) ∧
        (∀ more, exec (.frameDiscarded (cut ++ start :: more)) s = exec (.frameDiscarded (start :: more)) (s.setLink broken)) ∧
        exec (.frameDiscarded (cut ++ [.framingError])) s = .next (s.setLink broken) ∧
        exec (.lineLinkBreak cut) s = .next (s.setLink broken)) ∧
    ∀ noise, RxChar.byte 0x7E#8 ∉ noise →
      exec (.frameDiscarded noise) s = .next s ∧ exec (.lineLinkBreak noise) s = .next s

/-- The characters of a frame, escaped and with its check, act as the request's command (R178, R180): every type, tag and body up to
1024 bytes is read back from the line. That the characters of a good frame act as the frame given whole is the model's reading of
the receiver (log entry 11). That a STATUS spelled by characters samples the chain-run level last seen, and that a type which is no
request's goes to UNKNOWN_TYPE whatever it is, is the model's choice (log entry 30). -/
def Obligations.FrameCharactersActAsTheRequest : Prop :=
  ∀ (s : State) (type tag : Byte) (body : List Byte), s.powered = true → s.Settled → s.link.framer.receiving = false →
    body.length ≤ 1024 →
    exec (requestCommand type tag body s.pins.chainRun) s =
      .next (((wireFrame type tag body).map .byte).foldl State.linkCharacter s)

/-- Every step keeps the queues within their capacities (R112, R114, R162, R174, R180, R182). -/
def Obligations.EveryStepKeepsTheQueuesBounded : Prop :=
  ∀ (s t : State), s.QueuesBounded → step s = .next t → t.QueuesBounded

/-- The state after reset meets the conditions that every step keeps, but that no checkpoint stands in a blank flash. -/
def Obligations.ResetMeetsTheConditions : Prop :=
  State.reset.Settled ∧ State.reset.logs.AccountsAddUp ∧ State.reset.FrameChainOk ∧ State.reset.TrimmerOk ∧
    State.reset.ProductTallyOk ∧ State.reset.QueuesBounded
end

