-- ==== Sys2Proof/Laws/State.lean ====
section
/-! SUPPORT. One lemma for each block under each update of the state: no proof needs to unfold an update. -/

namespace Sys2Proof.Machine

@[simp] theorem State.setPower_power (s : State) (x : Power) : (s.setPower x).power = x := rfl
@[simp] theorem State.setPower_pins (s : State) (x : Power) : (s.setPower x).pins = s.pins := rfl
@[simp] theorem State.setPower_start (s : State) (x : Power) : (s.setPower x).start = s.start := rfl
@[simp] theorem State.setPower_chain (s : State) (x : Power) : (s.setPower x).chain = s.chain := rfl
@[simp] theorem State.setPower_logs (s : State) (x : Power) : (s.setPower x).logs = s.logs := rfl
@[simp] theorem State.setPower_scan (s : State) (x : Power) : (s.setPower x).scan = s.scan := rfl
@[simp] theorem State.setPower_track (s : State) (x : Power) : (s.setPower x).track = s.track := rfl
@[simp] theorem State.setPower_frames (s : State) (x : Power) : (s.setPower x).frames = s.frames := rfl
@[simp] theorem State.setPower_solver (s : State) (x : Power) : (s.setPower x).solver = s.solver := rfl
@[simp] theorem State.setPower_stationA (s : State) (x : Power) : (s.setPower x).stationA = s.stationA := rfl
@[simp] theorem State.setPower_stationB (s : State) (x : Power) : (s.setPower x).stationB = s.stationB := rfl
@[simp] theorem State.setPower_trimmer (s : State) (x : Power) : (s.setPower x).trimmer = s.trimmer := rfl
@[simp] theorem State.setPower_sorter (s : State) (x : Power) : (s.setPower x).sorter = s.sorter := rfl
@[simp] theorem State.setPower_tally (s : State) (x : Power) : (s.setPower x).tally = s.tally := rfl
@[simp] theorem State.setPower_store (s : State) (x : Power) : (s.setPower x).store = s.store := rfl
@[simp] theorem State.setPower_watch (s : State) (x : Power) : (s.setPower x).watch = s.watch := rfl
@[simp] theorem State.setPower_link (s : State) (x : Power) : (s.setPower x).link = s.link := rfl
@[simp] theorem State.setPower_pending (s : State) (x : Power) : (s.setPower x).pending = s.pending := rfl
@[simp] theorem State.setPower_setPower (s : State) (x y : Power) : (s.setPower x).setPower y = s.setPower y := rfl
@[simp] theorem State.setPower_self (s : State) : s.setPower s.power = s := rfl

@[simp] theorem State.setPins_power (s : State) (x : Pins) : (s.setPins x).power = s.power := rfl
@[simp] theorem State.setPins_pins (s : State) (x : Pins) : (s.setPins x).pins = x := rfl
@[simp] theorem State.setPins_start (s : State) (x : Pins) : (s.setPins x).start = s.start := rfl
@[simp] theorem State.setPins_chain (s : State) (x : Pins) : (s.setPins x).chain = s.chain := rfl
@[simp] theorem State.setPins_logs (s : State) (x : Pins) : (s.setPins x).logs = s.logs := rfl
@[simp] theorem State.setPins_scan (s : State) (x : Pins) : (s.setPins x).scan = s.scan := rfl
@[simp] theorem State.setPins_track (s : State) (x : Pins) : (s.setPins x).track = s.track := rfl
@[simp] theorem State.setPins_frames (s : State) (x : Pins) : (s.setPins x).frames = s.frames := rfl
@[simp] theorem State.setPins_solver (s : State) (x : Pins) : (s.setPins x).solver = s.solver := rfl
@[simp] theorem State.setPins_stationA (s : State) (x : Pins) : (s.setPins x).stationA = s.stationA := rfl
@[simp] theorem State.setPins_stationB (s : State) (x : Pins) : (s.setPins x).stationB = s.stationB := rfl
@[simp] theorem State.setPins_trimmer (s : State) (x : Pins) : (s.setPins x).trimmer = s.trimmer := rfl
@[simp] theorem State.setPins_sorter (s : State) (x : Pins) : (s.setPins x).sorter = s.sorter := rfl
@[simp] theorem State.setPins_tally (s : State) (x : Pins) : (s.setPins x).tally = s.tally := rfl
@[simp] theorem State.setPins_store (s : State) (x : Pins) : (s.setPins x).store = s.store := rfl
@[simp] theorem State.setPins_watch (s : State) (x : Pins) : (s.setPins x).watch = s.watch := rfl
@[simp] theorem State.setPins_link (s : State) (x : Pins) : (s.setPins x).link = s.link := rfl
@[simp] theorem State.setPins_pending (s : State) (x : Pins) : (s.setPins x).pending = s.pending := rfl
@[simp] theorem State.setPins_setPins (s : State) (x y : Pins) : (s.setPins x).setPins y = s.setPins y := rfl
@[simp] theorem State.setPins_self (s : State) : s.setPins s.pins = s := rfl

@[simp] theorem State.setStart_power (s : State) (x : StartInfo) : (s.setStart x).power = s.power := rfl
@[simp] theorem State.setStart_pins (s : State) (x : StartInfo) : (s.setStart x).pins = s.pins := rfl
@[simp] theorem State.setStart_start (s : State) (x : StartInfo) : (s.setStart x).start = x := rfl
@[simp] theorem State.setStart_chain (s : State) (x : StartInfo) : (s.setStart x).chain = s.chain := rfl
@[simp] theorem State.setStart_logs (s : State) (x : StartInfo) : (s.setStart x).logs = s.logs := rfl
@[simp] theorem State.setStart_scan (s : State) (x : StartInfo) : (s.setStart x).scan = s.scan := rfl
@[simp] theorem State.setStart_track (s : State) (x : StartInfo) : (s.setStart x).track = s.track := rfl
@[simp] theorem State.setStart_frames (s : State) (x : StartInfo) : (s.setStart x).frames = s.frames := rfl
@[simp] theorem State.setStart_solver (s : State) (x : StartInfo) : (s.setStart x).solver = s.solver := rfl
@[simp] theorem State.setStart_stationA (s : State) (x : StartInfo) : (s.setStart x).stationA = s.stationA := rfl
@[simp] theorem State.setStart_stationB (s : State) (x : StartInfo) : (s.setStart x).stationB = s.stationB := rfl
@[simp] theorem State.setStart_trimmer (s : State) (x : StartInfo) : (s.setStart x).trimmer = s.trimmer := rfl
@[simp] theorem State.setStart_sorter (s : State) (x : StartInfo) : (s.setStart x).sorter = s.sorter := rfl
@[simp] theorem State.setStart_tally (s : State) (x : StartInfo) : (s.setStart x).tally = s.tally := rfl
@[simp] theorem State.setStart_store (s : State) (x : StartInfo) : (s.setStart x).store = s.store := rfl
@[simp] theorem State.setStart_watch (s : State) (x : StartInfo) : (s.setStart x).watch = s.watch := rfl
@[simp] theorem State.setStart_link (s : State) (x : StartInfo) : (s.setStart x).link = s.link := rfl
@[simp] theorem State.setStart_pending (s : State) (x : StartInfo) : (s.setStart x).pending = s.pending := rfl
@[simp] theorem State.setStart_setStart (s : State) (x y : StartInfo) : (s.setStart x).setStart y = s.setStart y := rfl
@[simp] theorem State.setStart_self (s : State) : s.setStart s.start = s := rfl

@[simp] theorem State.setChain_power (s : State) (x : Chain) : (s.setChain x).power = s.power := rfl
@[simp] theorem State.setChain_pins (s : State) (x : Chain) : (s.setChain x).pins = s.pins := rfl
@[simp] theorem State.setChain_start (s : State) (x : Chain) : (s.setChain x).start = s.start := rfl
@[simp] theorem State.setChain_chain (s : State) (x : Chain) : (s.setChain x).chain = x := rfl
@[simp] theorem State.setChain_logs (s : State) (x : Chain) : (s.setChain x).logs = s.logs := rfl
@[simp] theorem State.setChain_scan (s : State) (x : Chain) : (s.setChain x).scan = s.scan := rfl
@[simp] theorem State.setChain_track (s : State) (x : Chain) : (s.setChain x).track = s.track := rfl
@[simp] theorem State.setChain_frames (s : State) (x : Chain) : (s.setChain x).frames = s.frames := rfl
@[simp] theorem State.setChain_solver (s : State) (x : Chain) : (s.setChain x).solver = s.solver := rfl
@[simp] theorem State.setChain_stationA (s : State) (x : Chain) : (s.setChain x).stationA = s.stationA := rfl
@[simp] theorem State.setChain_stationB (s : State) (x : Chain) : (s.setChain x).stationB = s.stationB := rfl
@[simp] theorem State.setChain_trimmer (s : State) (x : Chain) : (s.setChain x).trimmer = s.trimmer := rfl
@[simp] theorem State.setChain_sorter (s : State) (x : Chain) : (s.setChain x).sorter = s.sorter := rfl
@[simp] theorem State.setChain_tally (s : State) (x : Chain) : (s.setChain x).tally = s.tally := rfl
@[simp] theorem State.setChain_store (s : State) (x : Chain) : (s.setChain x).store = s.store := rfl
@[simp] theorem State.setChain_watch (s : State) (x : Chain) : (s.setChain x).watch = s.watch := rfl
@[simp] theorem State.setChain_link (s : State) (x : Chain) : (s.setChain x).link = s.link := rfl
@[simp] theorem State.setChain_pending (s : State) (x : Chain) : (s.setChain x).pending = s.pending := rfl
@[simp] theorem State.setChain_setChain (s : State) (x y : Chain) : (s.setChain x).setChain y = s.setChain y := rfl
@[simp] theorem State.setChain_self (s : State) : s.setChain s.chain = s := rfl

@[simp] theorem State.setLogs_power (s : State) (x : LogScaler) : (s.setLogs x).power = s.power := rfl
@[simp] theorem State.setLogs_pins (s : State) (x : LogScaler) : (s.setLogs x).pins = s.pins := rfl
@[simp] theorem State.setLogs_start (s : State) (x : LogScaler) : (s.setLogs x).start = s.start := rfl
@[simp] theorem State.setLogs_chain (s : State) (x : LogScaler) : (s.setLogs x).chain = s.chain := rfl
@[simp] theorem State.setLogs_logs (s : State) (x : LogScaler) : (s.setLogs x).logs = x := rfl
@[simp] theorem State.setLogs_scan (s : State) (x : LogScaler) : (s.setLogs x).scan = s.scan := rfl
@[simp] theorem State.setLogs_track (s : State) (x : LogScaler) : (s.setLogs x).track = s.track := rfl
@[simp] theorem State.setLogs_frames (s : State) (x : LogScaler) : (s.setLogs x).frames = s.frames := rfl
@[simp] theorem State.setLogs_solver (s : State) (x : LogScaler) : (s.setLogs x).solver = s.solver := rfl
@[simp] theorem State.setLogs_stationA (s : State) (x : LogScaler) : (s.setLogs x).stationA = s.stationA := rfl
@[simp] theorem State.setLogs_stationB (s : State) (x : LogScaler) : (s.setLogs x).stationB = s.stationB := rfl
@[simp] theorem State.setLogs_trimmer (s : State) (x : LogScaler) : (s.setLogs x).trimmer = s.trimmer := rfl
@[simp] theorem State.setLogs_sorter (s : State) (x : LogScaler) : (s.setLogs x).sorter = s.sorter := rfl
@[simp] theorem State.setLogs_tally (s : State) (x : LogScaler) : (s.setLogs x).tally = s.tally := rfl
@[simp] theorem State.setLogs_store (s : State) (x : LogScaler) : (s.setLogs x).store = s.store := rfl
@[simp] theorem State.setLogs_watch (s : State) (x : LogScaler) : (s.setLogs x).watch = s.watch := rfl
@[simp] theorem State.setLogs_link (s : State) (x : LogScaler) : (s.setLogs x).link = s.link := rfl
@[simp] theorem State.setLogs_pending (s : State) (x : LogScaler) : (s.setLogs x).pending = s.pending := rfl
@[simp] theorem State.setLogs_setLogs (s : State) (x y : LogScaler) : (s.setLogs x).setLogs y = s.setLogs y := rfl
@[simp] theorem State.setLogs_self (s : State) : s.setLogs s.logs = s := rfl

@[simp] theorem State.setScan_power (s : State) (x : Assembler) : (s.setScan x).power = s.power := rfl
@[simp] theorem State.setScan_pins (s : State) (x : Assembler) : (s.setScan x).pins = s.pins := rfl
@[simp] theorem State.setScan_start (s : State) (x : Assembler) : (s.setScan x).start = s.start := rfl
@[simp] theorem State.setScan_chain (s : State) (x : Assembler) : (s.setScan x).chain = s.chain := rfl
@[simp] theorem State.setScan_logs (s : State) (x : Assembler) : (s.setScan x).logs = s.logs := rfl
@[simp] theorem State.setScan_scan (s : State) (x : Assembler) : (s.setScan x).scan = x := rfl
@[simp] theorem State.setScan_track (s : State) (x : Assembler) : (s.setScan x).track = s.track := rfl
@[simp] theorem State.setScan_frames (s : State) (x : Assembler) : (s.setScan x).frames = s.frames := rfl
@[simp] theorem State.setScan_solver (s : State) (x : Assembler) : (s.setScan x).solver = s.solver := rfl
@[simp] theorem State.setScan_stationA (s : State) (x : Assembler) : (s.setScan x).stationA = s.stationA := rfl
@[simp] theorem State.setScan_stationB (s : State) (x : Assembler) : (s.setScan x).stationB = s.stationB := rfl
@[simp] theorem State.setScan_trimmer (s : State) (x : Assembler) : (s.setScan x).trimmer = s.trimmer := rfl
@[simp] theorem State.setScan_sorter (s : State) (x : Assembler) : (s.setScan x).sorter = s.sorter := rfl
@[simp] theorem State.setScan_tally (s : State) (x : Assembler) : (s.setScan x).tally = s.tally := rfl
@[simp] theorem State.setScan_store (s : State) (x : Assembler) : (s.setScan x).store = s.store := rfl
@[simp] theorem State.setScan_watch (s : State) (x : Assembler) : (s.setScan x).watch = s.watch := rfl
@[simp] theorem State.setScan_link (s : State) (x : Assembler) : (s.setScan x).link = s.link := rfl
@[simp] theorem State.setScan_pending (s : State) (x : Assembler) : (s.setScan x).pending = s.pending := rfl
@[simp] theorem State.setScan_setScan (s : State) (x y : Assembler) : (s.setScan x).setScan y = s.setScan y := rfl
@[simp] theorem State.setScan_self (s : State) : s.setScan s.scan = s := rfl

@[simp] theorem State.setTrack_power (s : State) (x : Tracking) : (s.setTrack x).power = s.power := rfl
@[simp] theorem State.setTrack_pins (s : State) (x : Tracking) : (s.setTrack x).pins = s.pins := rfl
@[simp] theorem State.setTrack_start (s : State) (x : Tracking) : (s.setTrack x).start = s.start := rfl
@[simp] theorem State.setTrack_chain (s : State) (x : Tracking) : (s.setTrack x).chain = s.chain := rfl
@[simp] theorem State.setTrack_logs (s : State) (x : Tracking) : (s.setTrack x).logs = s.logs := rfl
@[simp] theorem State.setTrack_scan (s : State) (x : Tracking) : (s.setTrack x).scan = s.scan := rfl
@[simp] theorem State.setTrack_track (s : State) (x : Tracking) : (s.setTrack x).track = x := rfl
@[simp] theorem State.setTrack_frames (s : State) (x : Tracking) : (s.setTrack x).frames = s.frames := rfl
@[simp] theorem State.setTrack_solver (s : State) (x : Tracking) : (s.setTrack x).solver = s.solver := rfl
@[simp] theorem State.setTrack_stationA (s : State) (x : Tracking) : (s.setTrack x).stationA = s.stationA := rfl
@[simp] theorem State.setTrack_stationB (s : State) (x : Tracking) : (s.setTrack x).stationB = s.stationB := rfl
@[simp] theorem State.setTrack_trimmer (s : State) (x : Tracking) : (s.setTrack x).trimmer = s.trimmer := rfl
@[simp] theorem State.setTrack_sorter (s : State) (x : Tracking) : (s.setTrack x).sorter = s.sorter := rfl
@[simp] theorem State.setTrack_tally (s : State) (x : Tracking) : (s.setTrack x).tally = s.tally := rfl
@[simp] theorem State.setTrack_store (s : State) (x : Tracking) : (s.setTrack x).store = s.store := rfl
@[simp] theorem State.setTrack_watch (s : State) (x : Tracking) : (s.setTrack x).watch = s.watch := rfl
@[simp] theorem State.setTrack_link (s : State) (x : Tracking) : (s.setTrack x).link = s.link := rfl
@[simp] theorem State.setTrack_pending (s : State) (x : Tracking) : (s.setTrack x).pending = s.pending := rfl
@[simp] theorem State.setTrack_setTrack (s : State) (x y : Tracking) : (s.setTrack x).setTrack y = s.setTrack y := rfl
@[simp] theorem State.setTrack_self (s : State) : s.setTrack s.track = s := rfl

@[simp] theorem State.setFrames_power (s : State) (x : Frames) : (s.setFrames x).power = s.power := rfl
@[simp] theorem State.setFrames_pins (s : State) (x : Frames) : (s.setFrames x).pins = s.pins := rfl
@[simp] theorem State.setFrames_start (s : State) (x : Frames) : (s.setFrames x).start = s.start := rfl
@[simp] theorem State.setFrames_chain (s : State) (x : Frames) : (s.setFrames x).chain = s.chain := rfl
@[simp] theorem State.setFrames_logs (s : State) (x : Frames) : (s.setFrames x).logs = s.logs := rfl
@[simp] theorem State.setFrames_scan (s : State) (x : Frames) : (s.setFrames x).scan = s.scan := rfl
@[simp] theorem State.setFrames_track (s : State) (x : Frames) : (s.setFrames x).track = s.track := rfl
@[simp] theorem State.setFrames_frames (s : State) (x : Frames) : (s.setFrames x).frames = x := rfl
@[simp] theorem State.setFrames_solver (s : State) (x : Frames) : (s.setFrames x).solver = s.solver := rfl
@[simp] theorem State.setFrames_stationA (s : State) (x : Frames) : (s.setFrames x).stationA = s.stationA := rfl
@[simp] theorem State.setFrames_stationB (s : State) (x : Frames) : (s.setFrames x).stationB = s.stationB := rfl
@[simp] theorem State.setFrames_trimmer (s : State) (x : Frames) : (s.setFrames x).trimmer = s.trimmer := rfl
@[simp] theorem State.setFrames_sorter (s : State) (x : Frames) : (s.setFrames x).sorter = s.sorter := rfl
@[simp] theorem State.setFrames_tally (s : State) (x : Frames) : (s.setFrames x).tally = s.tally := rfl
@[simp] theorem State.setFrames_store (s : State) (x : Frames) : (s.setFrames x).store = s.store := rfl
@[simp] theorem State.setFrames_watch (s : State) (x : Frames) : (s.setFrames x).watch = s.watch := rfl
@[simp] theorem State.setFrames_link (s : State) (x : Frames) : (s.setFrames x).link = s.link := rfl
@[simp] theorem State.setFrames_pending (s : State) (x : Frames) : (s.setFrames x).pending = s.pending := rfl
@[simp] theorem State.setFrames_setFrames (s : State) (x y : Frames) : (s.setFrames x).setFrames y = s.setFrames y := rfl
@[simp] theorem State.setFrames_self (s : State) : s.setFrames s.frames = s := rfl

@[simp] theorem State.setSolver_power (s : State) (x : Solver) : (s.setSolver x).power = s.power := rfl
@[simp] theorem State.setSolver_pins (s : State) (x : Solver) : (s.setSolver x).pins = s.pins := rfl
@[simp] theorem State.setSolver_start (s : State) (x : Solver) : (s.setSolver x).start = s.start := rfl
@[simp] theorem State.setSolver_chain (s : State) (x : Solver) : (s.setSolver x).chain = s.chain := rfl
@[simp] theorem State.setSolver_logs (s : State) (x : Solver) : (s.setSolver x).logs = s.logs := rfl
@[simp] theorem State.setSolver_scan (s : State) (x : Solver) : (s.setSolver x).scan = s.scan := rfl
@[simp] theorem State.setSolver_track (s : State) (x : Solver) : (s.setSolver x).track = s.track := rfl
@[simp] theorem State.setSolver_frames (s : State) (x : Solver) : (s.setSolver x).frames = s.frames := rfl
@[simp] theorem State.setSolver_solver (s : State) (x : Solver) : (s.setSolver x).solver = x := rfl
@[simp] theorem State.setSolver_stationA (s : State) (x : Solver) : (s.setSolver x).stationA = s.stationA := rfl
@[simp] theorem State.setSolver_stationB (s : State) (x : Solver) : (s.setSolver x).stationB = s.stationB := rfl
@[simp] theorem State.setSolver_trimmer (s : State) (x : Solver) : (s.setSolver x).trimmer = s.trimmer := rfl
@[simp] theorem State.setSolver_sorter (s : State) (x : Solver) : (s.setSolver x).sorter = s.sorter := rfl
@[simp] theorem State.setSolver_tally (s : State) (x : Solver) : (s.setSolver x).tally = s.tally := rfl
@[simp] theorem State.setSolver_store (s : State) (x : Solver) : (s.setSolver x).store = s.store := rfl
@[simp] theorem State.setSolver_watch (s : State) (x : Solver) : (s.setSolver x).watch = s.watch := rfl
@[simp] theorem State.setSolver_link (s : State) (x : Solver) : (s.setSolver x).link = s.link := rfl
@[simp] theorem State.setSolver_pending (s : State) (x : Solver) : (s.setSolver x).pending = s.pending := rfl
@[simp] theorem State.setSolver_setSolver (s : State) (x y : Solver) : (s.setSolver x).setSolver y = s.setSolver y := rfl
@[simp] theorem State.setSolver_self (s : State) : s.setSolver s.solver = s := rfl

@[simp] theorem State.setStationA_power (s : State) (x : Station) : (s.setStationA x).power = s.power := rfl
@[simp] theorem State.setStationA_pins (s : State) (x : Station) : (s.setStationA x).pins = s.pins := rfl
@[simp] theorem State.setStationA_start (s : State) (x : Station) : (s.setStationA x).start = s.start := rfl
@[simp] theorem State.setStationA_chain (s : State) (x : Station) : (s.setStationA x).chain = s.chain := rfl
@[simp] theorem State.setStationA_logs (s : State) (x : Station) : (s.setStationA x).logs = s.logs := rfl
@[simp] theorem State.setStationA_scan (s : State) (x : Station) : (s.setStationA x).scan = s.scan := rfl
@[simp] theorem State.setStationA_track (s : State) (x : Station) : (s.setStationA x).track = s.track := rfl
@[simp] theorem State.setStationA_frames (s : State) (x : Station) : (s.setStationA x).frames = s.frames := rfl
@[simp] theorem State.setStationA_solver (s : State) (x : Station) : (s.setStationA x).solver = s.solver := rfl
@[simp] theorem State.setStationA_stationA (s : State) (x : Station) : (s.setStationA x).stationA = x := rfl
@[simp] theorem State.setStationA_stationB (s : State) (x : Station) : (s.setStationA x).stationB = s.stationB := rfl
@[simp] theorem State.setStationA_trimmer (s : State) (x : Station) : (s.setStationA x).trimmer = s.trimmer := rfl
@[simp] theorem State.setStationA_sorter (s : State) (x : Station) : (s.setStationA x).sorter = s.sorter := rfl
@[simp] theorem State.setStationA_tally (s : State) (x : Station) : (s.setStationA x).tally = s.tally := rfl
@[simp] theorem State.setStationA_store (s : State) (x : Station) : (s.setStationA x).store = s.store := rfl
@[simp] theorem State.setStationA_watch (s : State) (x : Station) : (s.setStationA x).watch = s.watch := rfl
@[simp] theorem State.setStationA_link (s : State) (x : Station) : (s.setStationA x).link = s.link := rfl
@[simp] theorem State.setStationA_pending (s : State) (x : Station) : (s.setStationA x).pending = s.pending := rfl
@[simp] theorem State.setStationA_setStationA (s : State) (x y : Station) : (s.setStationA x).setStationA y = s.setStationA y := rfl
@[simp] theorem State.setStationA_self (s : State) : s.setStationA s.stationA = s := rfl

@[simp] theorem State.setStationB_power (s : State) (x : Station) : (s.setStationB x).power = s.power := rfl
@[simp] theorem State.setStationB_pins (s : State) (x : Station) : (s.setStationB x).pins = s.pins := rfl
@[simp] theorem State.setStationB_start (s : State) (x : Station) : (s.setStationB x).start = s.start := rfl
@[simp] theorem State.setStationB_chain (s : State) (x : Station) : (s.setStationB x).chain = s.chain := rfl
@[simp] theorem State.setStationB_logs (s : State) (x : Station) : (s.setStationB x).logs = s.logs := rfl
@[simp] theorem State.setStationB_scan (s : State) (x : Station) : (s.setStationB x).scan = s.scan := rfl
@[simp] theorem State.setStationB_track (s : State) (x : Station) : (s.setStationB x).track = s.track := rfl
@[simp] theorem State.setStationB_frames (s : State) (x : Station) : (s.setStationB x).frames = s.frames := rfl
@[simp] theorem State.setStationB_solver (s : State) (x : Station) : (s.setStationB x).solver = s.solver := rfl
@[simp] theorem State.setStationB_stationA (s : State) (x : Station) : (s.setStationB x).stationA = s.stationA := rfl
@[simp] theorem State.setStationB_stationB (s : State) (x : Station) : (s.setStationB x).stationB = x := rfl
@[simp] theorem State.setStationB_trimmer (s : State) (x : Station) : (s.setStationB x).trimmer = s.trimmer := rfl
@[simp] theorem State.setStationB_sorter (s : State) (x : Station) : (s.setStationB x).sorter = s.sorter := rfl
@[simp] theorem State.setStationB_tally (s : State) (x : Station) : (s.setStationB x).tally = s.tally := rfl
@[simp] theorem State.setStationB_store (s : State) (x : Station) : (s.setStationB x).store = s.store := rfl
@[simp] theorem State.setStationB_watch (s : State) (x : Station) : (s.setStationB x).watch = s.watch := rfl
@[simp] theorem State.setStationB_link (s : State) (x : Station) : (s.setStationB x).link = s.link := rfl
@[simp] theorem State.setStationB_pending (s : State) (x : Station) : (s.setStationB x).pending = s.pending := rfl
@[simp] theorem State.setStationB_setStationB (s : State) (x y : Station) : (s.setStationB x).setStationB y = s.setStationB y := rfl
@[simp] theorem State.setStationB_self (s : State) : s.setStationB s.stationB = s := rfl

@[simp] theorem State.setTrimmer_power (s : State) (x : Trimmer) : (s.setTrimmer x).power = s.power := rfl
@[simp] theorem State.setTrimmer_pins (s : State) (x : Trimmer) : (s.setTrimmer x).pins = s.pins := rfl
@[simp] theorem State.setTrimmer_start (s : State) (x : Trimmer) : (s.setTrimmer x).start = s.start := rfl
@[simp] theorem State.setTrimmer_chain (s : State) (x : Trimmer) : (s.setTrimmer x).chain = s.chain := rfl
@[simp] theorem State.setTrimmer_logs (s : State) (x : Trimmer) : (s.setTrimmer x).logs = s.logs := rfl
@[simp] theorem State.setTrimmer_scan (s : State) (x : Trimmer) : (s.setTrimmer x).scan = s.scan := rfl
@[simp] theorem State.setTrimmer_track (s : State) (x : Trimmer) : (s.setTrimmer x).track = s.track := rfl
@[simp] theorem State.setTrimmer_frames (s : State) (x : Trimmer) : (s.setTrimmer x).frames = s.frames := rfl
@[simp] theorem State.setTrimmer_solver (s : State) (x : Trimmer) : (s.setTrimmer x).solver = s.solver := rfl
@[simp] theorem State.setTrimmer_stationA (s : State) (x : Trimmer) : (s.setTrimmer x).stationA = s.stationA := rfl
@[simp] theorem State.setTrimmer_stationB (s : State) (x : Trimmer) : (s.setTrimmer x).stationB = s.stationB := rfl
@[simp] theorem State.setTrimmer_trimmer (s : State) (x : Trimmer) : (s.setTrimmer x).trimmer = x := rfl
@[simp] theorem State.setTrimmer_sorter (s : State) (x : Trimmer) : (s.setTrimmer x).sorter = s.sorter := rfl
@[simp] theorem State.setTrimmer_tally (s : State) (x : Trimmer) : (s.setTrimmer x).tally = s.tally := rfl
@[simp] theorem State.setTrimmer_store (s : State) (x : Trimmer) : (s.setTrimmer x).store = s.store := rfl
@[simp] theorem State.setTrimmer_watch (s : State) (x : Trimmer) : (s.setTrimmer x).watch = s.watch := rfl
@[simp] theorem State.setTrimmer_link (s : State) (x : Trimmer) : (s.setTrimmer x).link = s.link := rfl
@[simp] theorem State.setTrimmer_pending (s : State) (x : Trimmer) : (s.setTrimmer x).pending = s.pending := rfl
@[simp] theorem State.setTrimmer_setTrimmer (s : State) (x y : Trimmer) : (s.setTrimmer x).setTrimmer y = s.setTrimmer y := rfl
@[simp] theorem State.setTrimmer_self (s : State) : s.setTrimmer s.trimmer = s := rfl

@[simp] theorem State.setSorter_power (s : State) (x : Sorter) : (s.setSorter x).power = s.power := rfl
@[simp] theorem State.setSorter_pins (s : State) (x : Sorter) : (s.setSorter x).pins = s.pins := rfl
@[simp] theorem State.setSorter_start (s : State) (x : Sorter) : (s.setSorter x).start = s.start := rfl
@[simp] theorem State.setSorter_chain (s : State) (x : Sorter) : (s.setSorter x).chain = s.chain := rfl
@[simp] theorem State.setSorter_logs (s : State) (x : Sorter) : (s.setSorter x).logs = s.logs := rfl
@[simp] theorem State.setSorter_scan (s : State) (x : Sorter) : (s.setSorter x).scan = s.scan := rfl
@[simp] theorem State.setSorter_track (s : State) (x : Sorter) : (s.setSorter x).track = s.track := rfl
@[simp] theorem State.setSorter_frames (s : State) (x : Sorter) : (s.setSorter x).frames = s.frames := rfl
@[simp] theorem State.setSorter_solver (s : State) (x : Sorter) : (s.setSorter x).solver = s.solver := rfl
@[simp] theorem State.setSorter_stationA (s : State) (x : Sorter) : (s.setSorter x).stationA = s.stationA := rfl
@[simp] theorem State.setSorter_stationB (s : State) (x : Sorter) : (s.setSorter x).stationB = s.stationB := rfl
@[simp] theorem State.setSorter_trimmer (s : State) (x : Sorter) : (s.setSorter x).trimmer = s.trimmer := rfl
@[simp] theorem State.setSorter_sorter (s : State) (x : Sorter) : (s.setSorter x).sorter = x := rfl
@[simp] theorem State.setSorter_tally (s : State) (x : Sorter) : (s.setSorter x).tally = s.tally := rfl
@[simp] theorem State.setSorter_store (s : State) (x : Sorter) : (s.setSorter x).store = s.store := rfl
@[simp] theorem State.setSorter_watch (s : State) (x : Sorter) : (s.setSorter x).watch = s.watch := rfl
@[simp] theorem State.setSorter_link (s : State) (x : Sorter) : (s.setSorter x).link = s.link := rfl
@[simp] theorem State.setSorter_pending (s : State) (x : Sorter) : (s.setSorter x).pending = s.pending := rfl
@[simp] theorem State.setSorter_setSorter (s : State) (x y : Sorter) : (s.setSorter x).setSorter y = s.setSorter y := rfl
@[simp] theorem State.setSorter_self (s : State) : s.setSorter s.sorter = s := rfl

@[simp] theorem State.setTally_power (s : State) (x : Tally) : (s.setTally x).power = s.power := rfl
@[simp] theorem State.setTally_pins (s : State) (x : Tally) : (s.setTally x).pins = s.pins := rfl
@[simp] theorem State.setTally_start (s : State) (x : Tally) : (s.setTally x).start = s.start := rfl
@[simp] theorem State.setTally_chain (s : State) (x : Tally) : (s.setTally x).chain = s.chain := rfl
@[simp] theorem State.setTally_logs (s : State) (x : Tally) : (s.setTally x).logs = s.logs := rfl
@[simp] theorem State.setTally_scan (s : State) (x : Tally) : (s.setTally x).scan = s.scan := rfl
@[simp] theorem State.setTally_track (s : State) (x : Tally) : (s.setTally x).track = s.track := rfl
@[simp] theorem State.setTally_frames (s : State) (x : Tally) : (s.setTally x).frames = s.frames := rfl
@[simp] theorem State.setTally_solver (s : State) (x : Tally) : (s.setTally x).solver = s.solver := rfl
@[simp] theorem State.setTally_stationA (s : State) (x : Tally) : (s.setTally x).stationA = s.stationA := rfl
@[simp] theorem State.setTally_stationB (s : State) (x : Tally) : (s.setTally x).stationB = s.stationB := rfl
@[simp] theorem State.setTally_trimmer (s : State) (x : Tally) : (s.setTally x).trimmer = s.trimmer := rfl
@[simp] theorem State.setTally_sorter (s : State) (x : Tally) : (s.setTally x).sorter = s.sorter := rfl
@[simp] theorem State.setTally_tally (s : State) (x : Tally) : (s.setTally x).tally = x := rfl
@[simp] theorem State.setTally_store (s : State) (x : Tally) : (s.setTally x).store = s.store := rfl
@[simp] theorem State.setTally_watch (s : State) (x : Tally) : (s.setTally x).watch = s.watch := rfl
@[simp] theorem State.setTally_link (s : State) (x : Tally) : (s.setTally x).link = s.link := rfl
@[simp] theorem State.setTally_pending (s : State) (x : Tally) : (s.setTally x).pending = s.pending := rfl
@[simp] theorem State.setTally_setTally (s : State) (x y : Tally) : (s.setTally x).setTally y = s.setTally y := rfl
@[simp] theorem State.setTally_self (s : State) : s.setTally s.tally = s := rfl

@[simp] theorem State.setStore_power (s : State) (x : Store) : (s.setStore x).power = s.power := rfl
@[simp] theorem State.setStore_pins (s : State) (x : Store) : (s.setStore x).pins = s.pins := rfl
@[simp] theorem State.setStore_start (s : State) (x : Store) : (s.setStore x).start = s.start := rfl
@[simp] theorem State.setStore_chain (s : State) (x : Store) : (s.setStore x).chain = s.chain := rfl
@[simp] theorem State.setStore_logs (s : State) (x : Store) : (s.setStore x).logs = s.logs := rfl
@[simp] theorem State.setStore_scan (s : State) (x : Store) : (s.setStore x).scan = s.scan := rfl
@[simp] theorem State.setStore_track (s : State) (x : Store) : (s.setStore x).track = s.track := rfl
@[simp] theorem State.setStore_frames (s : State) (x : Store) : (s.setStore x).frames = s.frames := rfl
@[simp] theorem State.setStore_solver (s : State) (x : Store) : (s.setStore x).solver = s.solver := rfl
@[simp] theorem State.setStore_stationA (s : State) (x : Store) : (s.setStore x).stationA = s.stationA := rfl
@[simp] theorem State.setStore_stationB (s : State) (x : Store) : (s.setStore x).stationB = s.stationB := rfl
@[simp] theorem State.setStore_trimmer (s : State) (x : Store) : (s.setStore x).trimmer = s.trimmer := rfl
@[simp] theorem State.setStore_sorter (s : State) (x : Store) : (s.setStore x).sorter = s.sorter := rfl
@[simp] theorem State.setStore_tally (s : State) (x : Store) : (s.setStore x).tally = s.tally := rfl
@[simp] theorem State.setStore_store (s : State) (x : Store) : (s.setStore x).store = x := rfl
@[simp] theorem State.setStore_watch (s : State) (x : Store) : (s.setStore x).watch = s.watch := rfl
@[simp] theorem State.setStore_link (s : State) (x : Store) : (s.setStore x).link = s.link := rfl
@[simp] theorem State.setStore_pending (s : State) (x : Store) : (s.setStore x).pending = s.pending := rfl
@[simp] theorem State.setStore_setStore (s : State) (x y : Store) : (s.setStore x).setStore y = s.setStore y := rfl
@[simp] theorem State.setStore_self (s : State) : s.setStore s.store = s := rfl

@[simp] theorem State.setWatch_power (s : State) (x : Watch) : (s.setWatch x).power = s.power := rfl
@[simp] theorem State.setWatch_pins (s : State) (x : Watch) : (s.setWatch x).pins = s.pins := rfl
@[simp] theorem State.setWatch_start (s : State) (x : Watch) : (s.setWatch x).start = s.start := rfl
@[simp] theorem State.setWatch_chain (s : State) (x : Watch) : (s.setWatch x).chain = s.chain := rfl
@[simp] theorem State.setWatch_logs (s : State) (x : Watch) : (s.setWatch x).logs = s.logs := rfl
@[simp] theorem State.setWatch_scan (s : State) (x : Watch) : (s.setWatch x).scan = s.scan := rfl
@[simp] theorem State.setWatch_track (s : State) (x : Watch) : (s.setWatch x).track = s.track := rfl
@[simp] theorem State.setWatch_frames (s : State) (x : Watch) : (s.setWatch x).frames = s.frames := rfl
@[simp] theorem State.setWatch_solver (s : State) (x : Watch) : (s.setWatch x).solver = s.solver := rfl
@[simp] theorem State.setWatch_stationA (s : State) (x : Watch) : (s.setWatch x).stationA = s.stationA := rfl
@[simp] theorem State.setWatch_stationB (s : State) (x : Watch) : (s.setWatch x).stationB = s.stationB := rfl
@[simp] theorem State.setWatch_trimmer (s : State) (x : Watch) : (s.setWatch x).trimmer = s.trimmer := rfl
@[simp] theorem State.setWatch_sorter (s : State) (x : Watch) : (s.setWatch x).sorter = s.sorter := rfl
@[simp] theorem State.setWatch_tally (s : State) (x : Watch) : (s.setWatch x).tally = s.tally := rfl
@[simp] theorem State.setWatch_store (s : State) (x : Watch) : (s.setWatch x).store = s.store := rfl
@[simp] theorem State.setWatch_watch (s : State) (x : Watch) : (s.setWatch x).watch = x := rfl
@[simp] theorem State.setWatch_link (s : State) (x : Watch) : (s.setWatch x).link = s.link := rfl
@[simp] theorem State.setWatch_pending (s : State) (x : Watch) : (s.setWatch x).pending = s.pending := rfl
@[simp] theorem State.setWatch_setWatch (s : State) (x y : Watch) : (s.setWatch x).setWatch y = s.setWatch y := rfl
@[simp] theorem State.setWatch_self (s : State) : s.setWatch s.watch = s := rfl

@[simp] theorem State.setLink_power (s : State) (x : Link) : (s.setLink x).power = s.power := rfl
@[simp] theorem State.setLink_pins (s : State) (x : Link) : (s.setLink x).pins = s.pins := rfl
@[simp] theorem State.setLink_start (s : State) (x : Link) : (s.setLink x).start = s.start := rfl
@[simp] theorem State.setLink_chain (s : State) (x : Link) : (s.setLink x).chain = s.chain := rfl
@[simp] theorem State.setLink_logs (s : State) (x : Link) : (s.setLink x).logs = s.logs := rfl
@[simp] theorem State.setLink_scan (s : State) (x : Link) : (s.setLink x).scan = s.scan := rfl
@[simp] theorem State.setLink_track (s : State) (x : Link) : (s.setLink x).track = s.track := rfl
@[simp] theorem State.setLink_frames (s : State) (x : Link) : (s.setLink x).frames = s.frames := rfl
@[simp] theorem State.setLink_solver (s : State) (x : Link) : (s.setLink x).solver = s.solver := rfl
@[simp] theorem State.setLink_stationA (s : State) (x : Link) : (s.setLink x).stationA = s.stationA := rfl
@[simp] theorem State.setLink_stationB (s : State) (x : Link) : (s.setLink x).stationB = s.stationB := rfl
@[simp] theorem State.setLink_trimmer (s : State) (x : Link) : (s.setLink x).trimmer = s.trimmer := rfl
@[simp] theorem State.setLink_sorter (s : State) (x : Link) : (s.setLink x).sorter = s.sorter := rfl
@[simp] theorem State.setLink_tally (s : State) (x : Link) : (s.setLink x).tally = s.tally := rfl
@[simp] theorem State.setLink_store (s : State) (x : Link) : (s.setLink x).store = s.store := rfl
@[simp] theorem State.setLink_watch (s : State) (x : Link) : (s.setLink x).watch = s.watch := rfl
@[simp] theorem State.setLink_link (s : State) (x : Link) : (s.setLink x).link = x := rfl
@[simp] theorem State.setLink_pending (s : State) (x : Link) : (s.setLink x).pending = s.pending := rfl
@[simp] theorem State.setLink_setLink (s : State) (x y : Link) : (s.setLink x).setLink y = s.setLink y := rfl
@[simp] theorem State.setLink_self (s : State) : s.setLink s.link = s := rfl

@[simp] theorem State.setPending_power (s : State) (x : List Instr) : (s.setPending x).power = s.power := rfl
@[simp] theorem State.setPending_pins (s : State) (x : List Instr) : (s.setPending x).pins = s.pins := rfl
@[simp] theorem State.setPending_start (s : State) (x : List Instr) : (s.setPending x).start = s.start := rfl
@[simp] theorem State.setPending_chain (s : State) (x : List Instr) : (s.setPending x).chain = s.chain := rfl
@[simp] theorem State.setPending_logs (s : State) (x : List Instr) : (s.setPending x).logs = s.logs := rfl
@[simp] theorem State.setPending_scan (s : State) (x : List Instr) : (s.setPending x).scan = s.scan := rfl
@[simp] theorem State.setPending_track (s : State) (x : List Instr) : (s.setPending x).track = s.track := rfl
@[simp] theorem State.setPending_frames (s : State) (x : List Instr) : (s.setPending x).frames = s.frames := rfl
@[simp] theorem State.setPending_solver (s : State) (x : List Instr) : (s.setPending x).solver = s.solver := rfl
@[simp] theorem State.setPending_stationA (s : State) (x : List Instr) : (s.setPending x).stationA = s.stationA := rfl
@[simp] theorem State.setPending_stationB (s : State) (x : List Instr) : (s.setPending x).stationB = s.stationB := rfl
@[simp] theorem State.setPending_trimmer (s : State) (x : List Instr) : (s.setPending x).trimmer = s.trimmer := rfl
@[simp] theorem State.setPending_sorter (s : State) (x : List Instr) : (s.setPending x).sorter = s.sorter := rfl
@[simp] theorem State.setPending_tally (s : State) (x : List Instr) : (s.setPending x).tally = s.tally := rfl
@[simp] theorem State.setPending_store (s : State) (x : List Instr) : (s.setPending x).store = s.store := rfl
@[simp] theorem State.setPending_watch (s : State) (x : List Instr) : (s.setPending x).watch = s.watch := rfl
@[simp] theorem State.setPending_link (s : State) (x : List Instr) : (s.setPending x).link = s.link := rfl
@[simp] theorem State.setPending_pending (s : State) (x : List Instr) : (s.setPending x).pending = x := rfl
@[simp] theorem State.setPending_setPending (s : State) (x y : List Instr) : (s.setPending x).setPending y = s.setPending y := rfl
@[simp] theorem State.setPending_self (s : State) : s.setPending s.pending = s := rfl

end Sys2Proof.Machine
end

