-- ==== Sys2Proof/Laws/Ops.lean ====
section
/-! SUPPORT. What each shared operation can do, said once, to be cited in place of its definition. -/

namespace Sys2Proof.Machine

variable {s t : State}

/-! ### Counts and lug counters -/

theorem satInc_le (n : Nat) : satInc n ≤ 65535 := Nat.min_le_right _ _

theorem satInc_of_lt {n : Nat} (h : n < 65535) : satInc n = n + 1 := by simp [satInc, Config.countMax]; omega

/-- A trigger (R8): the counter runs from its reload value, unless it runs already with option IGNORE. -/
theorem LugCounter.trigger_cases (c : LugCounter) :
    (c.running = true ∧ c.retrigger = .ignore ∧ c.trigger = c) ∨
      c.trigger = { c with remaining := c.reload, running := true } := by
  obtain ⟨r, m, run, opt, e⟩ := c
  cases run <;> cases opt <;> simp [LugCounter.trigger]

/-- A gated boundary (R9): an idle counter stands still, a running one counts down or expires. -/
theorem LugCounter.countDown_cases (c : LugCounter) :
    (c.running = false ∧ c.countDown = c) ∨
      (c.running = true ∧ 1 < c.remaining ∧ c.countDown = { c with remaining := c.remaining - 1 }) ∨
      (c.running = true ∧ c.remaining ≤ 1 ∧
        c.countDown = { c with remaining := 0, running := false, expiryPending := true }) := by
  unfold LugCounter.countDown
  split
  · split
    · exact .inr (.inr ⟨‹_›, ‹_›, rfl⟩)
    · exact .inr (.inl ⟨‹_›, by omega, rfl⟩)
  · exact .inl ⟨by simpa using ‹¬ c.running = true›, rfl⟩

/-! ### The notice queue -/

/-- The admission of a notice (R182): placed, dropped, in the place of an evicted BOARD REPORT, or lost. -/
theorem Link.queueNotice_cases (l : Link) (n : Notice) :
    (l.notices.length < 64 ∧ l.queueNotice n = { l with notices := l.notices ++ [n] }) ∨
      (64 ≤ l.notices.length ∧ n.isReport = true ∧ l.queueNotice n =
        { l with droppedSince := satInc l.droppedSince, reportsDropped := satInc l.reportsDropped }) ∨
      (64 ≤ l.notices.length ∧ n.isReport = false ∧ ∃ i, l.evictable = some i ∧ l.queueNotice n =
        { l with notices := l.notices.eraseIdx i ++ [n], droppedSince := satInc l.droppedSince,
                 reportsDropped := satInc l.reportsDropped }) ∨
      (64 ≤ l.notices.length ∧ n.isReport = false ∧ l.evictable = none ∧
        l.queueNotice n = { l with noticesDropped := satInc l.noticesDropped }) := by
  unfold Link.queueNotice
  split
  · exact .inl ⟨‹_›, rfl⟩
  · have h : 64 ≤ l.notices.length := Nat.le_of_not_lt ‹_›
    split
    · exact .inr (.inl ⟨h, ‹_›, rfl⟩)
    · have hn : n.isReport = false := by simpa using ‹¬ n.isReport = true›
      split
      · exact .inr (.inr (.inl ⟨h, hn, _, ‹_›, rfl⟩))
      · exact .inr (.inr (.inr ⟨h, hn, ‹_›, rfl⟩))

/-- The place of an evicted report lies in the queue, behind a notice being sent. -/
theorem Link.evictable_lt {l : Link} {i : Nat} (h : l.evictable = some i) : l.begun ≤ i ∧ i < l.notices.length := by
  unfold Link.evictable at h
  obtain ⟨j, hj, rfl⟩ := Option.map_eq_some_iff.mp h
  have := (List.findIdx?_eq_some_iff_findIdx_eq.mp hj).1
  simp at this
  omega

/-- An admission keeps the notice queue within its 64 places. -/
theorem Link.queueNotice_length {l : Link} (h : l.notices.length ≤ 64) (n : Notice) :
    (l.queueNotice n).notices.length ≤ 64 := by
  obtain ⟨hl, e⟩ | ⟨-, -, e⟩ | ⟨hl, -, i, hi, e⟩ | ⟨-, -, -, e⟩ := l.queueNotice_cases n <;> rw [e]
  · simp; omega
  · exact h
  · have := (evictable_lt hi).2
    simp [List.length_eraseIdx, this]
    omega
  · exact h

theorem Link.queueNotice_replies (l : Link) (n : Notice) : (l.queueNotice n).replies = l.replies := by
  obtain ⟨-, e⟩ | ⟨-, -, e⟩ | ⟨-, -, i, -, e⟩ | ⟨-, -, -, e⟩ := l.queueNotice_cases n <;> rw [e]

theorem Link.queueNotice_sending (l : Link) (n : Notice) : (l.queueNotice n).sending = l.sending := by
  obtain ⟨-, e⟩ | ⟨-, -, e⟩ | ⟨-, -, i, -, e⟩ | ⟨-, -, -, e⟩ := l.queueNotice_cases n <;> rw [e]

/-! ### The transmitter -/

/-- What an idle transmitter takes up (R181, R183); a busy one goes on. -/
theorem Link.takeUp_cases (l : Link) :
    (l.sending ≠ none ∧ l.takeUp = l) ∨
      (l.sending = none ∧ l.replies ≠ [] ∧ l.takeUp = { l with sending := some .reply }) ∨
      (l.sending = none ∧ l.replies = [] ∧ ∃ n rest, l.notices = n :: rest ∧ l.takeUp =
        { l with sending := some (.notice l.noticeTag), noticeTag := l.noticeTag + 1,
                 notices := n.withDropped l.droppedSince :: rest,
                 droppedSince := if n.isReport then 0 else l.droppedSince }) ∨
      (l.sending = none ∧ l.replies = [] ∧ l.notices = [] ∧ l.takeUp = l) := by
  unfold Link.takeUp
  split
  · exact .inl ⟨by simp_all, rfl⟩
  · rename_i h
    split
    · exact .inr (.inl ⟨h, by simp_all, rfl⟩)
    · exact .inr (.inr (.inl ⟨h, ‹_›, _, _, ‹_›, rfl⟩))
    · exact .inr (.inr (.inr ⟨h, ‹_›, ‹_›, rfl⟩))

theorem Link.takeUp_replies (l : Link) : l.takeUp.replies = l.replies := by
  obtain ⟨-, e⟩ | ⟨-, -, e⟩ | ⟨-, -, n, rest, -, e⟩ | ⟨-, -, -, e⟩ := l.takeUp_cases <;> rw [e]

theorem Link.takeUp_notices_length (l : Link) : l.takeUp.notices.length = l.notices.length := by
  obtain ⟨-, e⟩ | ⟨-, -, e⟩ | ⟨-, -, n, rest, h, e⟩ | ⟨-, -, -, e⟩ := l.takeUp_cases <;> rw [e]
  simp [h]

/-! ### Station output -/

@[simp] theorem Station.putReply_lineCount (r : StationReply) (x : Station) :
    (x.putReply r).lineCount = x.lineCount + 1 := by
  simp [Station.putReply, Station.lineCount, StationLine.isDisplay]

/-- A display line does not count among the reply and message lines (R114). -/
@[simp] theorem Station.putDisplay_lineCount (d : DisplayLine) (x : Station) :
    (x.putDisplay d).lineCount = x.lineCount := by
  have hm : ∀ l : List StationLine, ((l.map fun y => if y.isDisplay then .display d else y).filter
      fun y => !y.isDisplay).length = (l.filter fun y => !y.isDisplay).length := by
    intro l
    induction l with
    | nil => rfl
    | cons y l ih => cases y <;> simpa [StationLine.isDisplay] using ih
  unfold Station.putDisplay
  dsimp only
  split
  · simp only [Station.lineCount, List.filter_append, List.length_append, hm]
    rw [← List.length_append, ← List.filter_append, List.take_append_drop]
  · simp [Station.lineCount, StationLine.isDisplay]

/-- A message is placed, or lost and counted (R114). -/
theorem Station.putMessage_cases (l : StationLine) (x : Station) :
    (x.lineCount < 8 ∧ x.putMessage l = { x with output := x.output ++ [l] }) ∨
      (8 ≤ x.lineCount ∧ x.putMessage l = { x with messagesLost := satInc x.messagesLost }) := by
  unfold Station.putMessage
  split
  · exact .inl ⟨‹_›, rfl⟩
  · exact .inr ⟨Nat.le_of_not_lt ‹_›, rfl⟩

@[simp] theorem State.station_setStation (s : State) (st : StationId) (x : Station) :
    (s.setStation st x).station st = x := by cases st <;> rfl

@[simp] theorem State.station_setStation_other (s : State) (st : StationId) (x : Station) :
    (s.setStation st x).station (otherStation st) = s.station (otherStation st) := by cases st <;> rfl

/-! ### Board records -/

theorem State.board?_lug {lug : Lug} {b : Board} (h : s.board? lug = some b) : b.lug = lug := by
  simpa using List.find?_some h

theorem State.board?_mem {lug : Lug} {b : Board} (h : s.board? lug = some b) : b ∈ s.track.boards :=
  List.mem_of_find?_eq_some h

/-- The record of a board after a change of it that keeps its lug number. -/
theorem State.board?_updateBoard (s : State) (lug : Lug) {f : Board → Board} (hf : ∀ b, (f b).lug = b.lug) :
    (s.updateBoard lug f).board? lug = (s.board? lug).map f := by
  simp only [State.board?, State.updateBoard, State.setTrack_track]
  induction s.track.boards with
  | nil => rfl
  | cons b bs ih =>
    by_cases h : b.lug = lug
    · simp [h, hf]
    · simp [h, ih]

/-- The record of every other board stays. -/
theorem State.board?_updateBoard_other (s : State) {lug k : Lug} {f : Board → Board} (hf : ∀ b, (f b).lug = b.lug)
    (hk : k ≠ lug) : (s.updateBoard lug f).board? k = s.board? k := by
  simp only [State.board?, State.updateBoard, State.setTrack_track]
  induction s.track.boards with
  | nil => rfl
  | cons b bs ih =>
    by_cases h : b.lug = lug
    · have : (lug == k) = false := by simpa using fun e : lug = k => hk e.symm
      simp [h, hf, this, ih]
    · simp [List.find?_cons, h, ih]

/-! ### The trimmer port -/

/-- When a presented decision goes on the lines (R132), and what the port then holds. -/
theorem Trimmer.present_cases (running : Bool) (t : Trimmer) :
    (∃ x, t.presented = some x ∧ t.onLines = false ∧ t.phase = .ready ∧ running = true ∧ t.present running =
      { t with presented := some { x with again := false }, onLines := true, phase := .on,
               lines := { saws := x.mask, tag := trimTag x.lug, dv := true }, lastTag := trimTag x.lug,
               representations := if x.again then satInc t.representations else t.representations }) ∨
    ((t.presented = none ∨ t.onLines = true ∨ t.phase ≠ .ready ∨ running = false) ∧ t.present running = t) := by
  unfold Trimmer.present
  split
  · split
    · rename_i h
      simp at h
      exact .inl ⟨_, ‹_›, h.1.1, h.1.2, h.2, rfl⟩
    · rename_i h
      simp at h
      refine .inr ⟨?_, rfl⟩
      by_cases h1 : t.onLines = true
      · exact .inr (.inl h1)
      · by_cases h2 : t.phase = .ready
        · exact .inr (.inr (.inr (h (by simpa using h1) h2)))
        · exact .inr (.inr (.inl h2))
  · exact .inr ⟨.inl ‹_›, rfl⟩

/-- Where a commit's decision goes (R131); it is turned away only with both slots occupied. -/
theorem Trimmer.place_cases (now : Lug) (x : Slot) (t : Trimmer) :
    ((t.place now x).2 = true ∧ (t.presented = none ∨ t.staged = none) ∧
      ((t.place now x).1.presented = some x ∨ (t.place now x).1.staged = some x)) ∨
    ((t.place now x).2 = false ∧ (∃ y z, t.presented = some y ∧ t.staged = some z) ∧
      (t.place now x).1 = { t with overruns := satInc t.overruns }) := by
  unfold Trimmer.place
  split
  · exact .inl ⟨rfl, .inl ‹_›, .inl rfl⟩
  · split
    · exact .inl ⟨rfl, .inr ‹_›, .inl rfl⟩
    · exact .inl ⟨rfl, .inr ‹_›, .inr rfl⟩
  · exact .inr ⟨rfl, ⟨_, _, ‹_›, ‹_›⟩, rfl⟩

/-! ### The sorter port -/

/-- The delivery of a strobe (R142): begun, held as the waiting strobe, or not delivered. -/
theorem Sorter.deliver_cases (x : Sorter) (codes : SortResult) (width : Nat) :
    (x.strobe = .idle ∧ x.deliver codes width =
      { x with strobe := .strobing codes width, delivered := satInc x.delivered }) ∨
    (x.strobe ≠ .idle ∧ x.waiting = none ∧ x.deliver codes width = { x with waiting := some codes }) ∨
    (x.strobe ≠ .idle ∧ x.waiting ≠ none ∧ x.deliver codes width = { x with overruns := satInc x.overruns }) := by
  unfold Sorter.deliver
  split
  · exact .inl ⟨‹_›, rfl⟩
  · rename_i h
    split
    · exact .inr (.inl ⟨h, ‹_›, rfl⟩)
    · exact .inr (.inr ⟨h, by simp_all, rfl⟩)

/-! ### The solve queue -/

/-- A request made (R89): its entry stands in the queue with its reason. -/
theorem Solver.mem_enqueue (v : Solver) (lug : Lug) (reason : Reason) : (lug, reason) ∈ (v.enqueue lug reason).queue := by
  unfold Solver.enqueue
  split
  · rename_i h
    obtain ⟨e, he, hl⟩ := List.any_eq_true.mp h
    exact List.mem_map.mpr ⟨e, he, by simp_all⟩
  · simp

/-- A request for a board that has an entry adds none. -/
theorem Solver.enqueue_length (v : Solver) (lug : Lug) (reason : Reason) :
    (v.enqueue lug reason).queue.length =
      v.queue.length + (if v.queue.any fun e => e.1 == lug then 0 else 1) := by
  unfold Solver.enqueue
  split <;> simp_all

/-! ### Tally counters -/

/-- An addition to a tally counter never leaves its range (R146). -/
theorem Counter.add_le {greatest n : Nat} {c : Counter} (h : c.value ≤ greatest) :
    (Counter.add greatest n c).value ≤ greatest := by
  unfold Counter.add
  repeat' split
  all_goals simp_all

/-! ### The store -/

/-- The parts of a record written whole. -/
@[simp] theorem StoreRecord.written_body (body : StoreBody) (seq : BitVec 32) : (StoreRecord.written body seq).body = body := rfl
@[simp] theorem StoreRecord.written_seq (body : StoreBody) (seq : BitVec 32) : (StoreRecord.written body seq).seq = seq := rfl
@[simp] theorem StoreRecord.written_mark (body : StoreBody) (seq : BitVec 32) : (StoreRecord.written body seq).mark = true := rfl
@[simp] theorem StoreRecord.written_check (body : StoreBody) (seq : BitVec 32) :
    (StoreRecord.written body seq).check = body.checkWord seq := rfl

/-- A record written whole is valid, whatever the check word's function (R160). -/
@[simp] theorem StoreRecord.valid_written (body : StoreBody) (seq : BitVec 32) : (StoreRecord.written body seq).valid = true := by
  simp [StoreRecord.valid, StoreRecord.written]

/-- A record without its completion mark is torn (R160). -/
@[simp] theorem StoreRecord.valid_unmarked (r : StoreRecord) : ({ r with mark := false } : StoreRecord).valid = false := rfl

/-- A record with its own check word is valid when its mark was written, else torn: so a cut leaves the write in flight
(R160). -/
@[simp] theorem StoreRecord.valid_checked (body : StoreBody) (seq : BitVec 32) (mark : Bool) :
    ({ body := body, seq := seq, check := body.checkWord seq, mark := mark } : StoreRecord).valid = mark := by
  simp [StoreRecord.valid]

/-- A list has a newest record unless it is empty (R160). -/
@[simp] theorem newestOf_eq_none {l : List StoreRecord} : newestOf l = none ↔ l = [] := by
  cases l with
  | nil => simp [newestOf]
  | cons r rest =>
    simp only [newestOf]
    split
    · simp
    · split <;> simp

/-- The newest record is one of the list, and none is newer (R160). -/
theorem newestOf_spec {l : List StoreRecord} {r : StoreRecord} (h : newestOf l = some r) :
    r ∈ l ∧ ∀ x ∈ l, x.seq.toNat ≤ r.seq.toNat := by
  induction l generalizing r with
  | nil => simp [newestOf] at h
  | cons a rest ih =>
    simp only [newestOf] at h
    split at h
    · rename_i hn
      cases newestOf_eq_none.1 hn
      cases h
      simp
    · rename_i y hy
      obtain ⟨hm, hle⟩ := ih hy
      split at h <;> cases h
      · exact ⟨.tail _ hm, fun x hx => by rcases List.mem_cons.1 hx with rfl | hx; assumption; exact hle x hx⟩
      · refine ⟨.head _, fun x hx => ?_⟩
        rcases List.mem_cons.1 hx with rfl | hx
        · exact Nat.le_refl _
        · have := hle x hx
          omega

/-- A reclaim asked for (R165): asked for again during an erase, else its first erase begins, if a block is reclaimable. -/
theorem Store.startReclaim_cases (x : Store) (i : Nat) :
    (x.erasing.isSome = true ∧ x.startReclaim i = { x with reclaimAgain := true }) ∨
      (x.erasing = none ∧ x.startReclaim i = { x with erasing := x.nextReclaim i }) := by
  unfold Store.startReclaim
  cases h : x.erasing <;> simp

/-- The relocation test (R166): nothing, a relocation queued with the mark cleared, or the mark set. -/
theorem Store.testRelocation_cases (x : Store) :
    ((x.relocationWanted = false ∨ x.relocateQueued = true) ∧ x.testRelocation = x) ∨
      (x.anyFree = true ∧ x.queueFull = false ∧ x.deferred = false ∧
        x.testRelocation = { x with queue := x.queue ++ [.relocate], relocationDue := false }) ∨
      x.testRelocation = { x with relocationDue := true } := by
  unfold Store.testRelocation
  split
  · split
    · exact .inr (.inl (by simp_all))
    · exact .inr (.inr rfl)
  · refine .inl ⟨?_, rfl⟩
    cases h : x.relocationWanted <;> simp_all

/-- The end of a restore (R187 steps 2 to 4): taken when STARTING has not restored and no erase of it is left. -/
theorem State.settleRestore_cases (s : State) :
    s.settleRestore = s ∨
      (s.start.restored = false ∧ s.store.erasing = none ∧ (∃ cause, s.power = .starting cause) ∧
        s.settleRestore = s.endRestore) := by
  unfold State.settleRestore
  split
  · split
    · exact .inl rfl
    · exact .inr (by simp_all)
  · exact .inl rfl

/-! ### The solver's begin (R90) -/

/-- A begin takes the front entry of an idle solver, and changes nothing else. -/
theorem State.beginSolve_cases (s : State) :
    ((s.solver.inProgress.isSome = true ∨ s.solver.queue = []) ∧ s.beginSolve = s) ∨
      ∃ lug reason rest, s.solver.inProgress = none ∧ s.solver.queue = (lug, reason) :: rest ∧
        s.beginSolve = s.setSolver { s.solver with
          queue := rest
          inProgress := (s.board? lug).map fun b => { lug := lug, reason := reason, input := s.solveInput b } } := by
  unfold State.beginSolve
  cases hp : s.solver.inProgress with
  | some v => exact .inl ⟨.inl rfl, rfl⟩
  | none =>
    cases hq : s.solver.queue with
    | nil => exact .inl ⟨.inr rfl, rfl⟩
    | cons e rest => exact .inr ⟨e.1, e.2, rest, rfl, rfl, rfl⟩

/-! ### The spaces of a station record (R113) -/

/-- Characters without a space are one word. -/
theorem splitSpaces_word {w : List Byte} (h : ∀ b ∈ w, b ≠ 0x20#8) : splitSpaces w = [w] := by
  induction w with
  | nil => rfl
  | cons a rest ih =>
    obtain ⟨ha, hr⟩ := List.forall_mem_cons.1 h
    simp [splitSpaces, ha, ih hr]

/-- A word ends at the first space. -/
theorem splitSpaces_append {w : List Byte} (rest : List Byte) (h : ∀ b ∈ w, b ≠ 0x20#8) :
    splitSpaces (w ++ 0x20#8 :: rest) = w :: splitSpaces rest := by
  induction w with
  | nil => simp [splitSpaces]
  | cons a more ih =>
    obtain ⟨ha, hr⟩ := List.forall_mem_cons.1 h
    simp [splitSpaces, ha, ih hr]

end Sys2Proof.Machine
end

