-- ==== Sys2Proof/Laws/Displays.lean ====
section
/-! SUPPORT. What a refresh does to a station's output queue, in the words the statements use (R114, R122). -/

namespace Sys2Proof.Machine

variable {x y : Station} {d e : DisplayLine}

/-- A display line placed changes the output queue alone. -/
theorem Station.putDisplay_same (d : DisplayLine) (x : Station) :
    x.putDisplay d = { x with output := (x.putDisplay d).output } := by
  unfold Station.putDisplay
  dsimp only
  split <;> rfl

/-- A display line placed is a refresh of the display. -/
theorem Station.putDisplay_refreshed (d : DisplayLine) (x : Station) : x.Refreshed d (x.putDisplay d) := by
  have other (l : StationLine) : l.isDisplay = false ↔ ∀ e, l ≠ .display e := by
    cases l <;> simp [StationLine.isDisplay]
  have keep : ∀ ls : List StationLine, (∀ l ∈ ls, ∀ e, l ≠ .display e) →
      ls.map (fun l => if l.isDisplay then .display d else l) = ls := by
    intro ls h
    refine (List.map_congr_left fun l hl => ?_).trans (List.map_id _)
    simp [(other l).2 (h l hl)]
  have begun : x.begun = if x.sending then 1 else 0 := rfl
  refine ⟨x.putDisplay_same d, ?_⟩
  unfold Station.putDisplay
  simp only [begun]
  refine ⟨fun h => ?_, fun older e younger hw ho => ?_⟩
  · rw [if_neg]
    simpa [List.any_eq_true, other] using h
  · obtain ⟨h1, h2⟩ := List.forall_mem_append.1 ho
    rw [if_pos (by rw [hw]; simp [StationLine.isDisplay])]
    simp only [hw, List.map_append, List.map_cons, keep _ h1, keep _ h2, List.append_assoc]
    rfl

/-- A second refresh in one event leaves the display of the second alone, where a station that sends has a line to send. -/
theorem Station.putDisplay_putDisplay (hx : x.sending = true → x.output ≠ []) (d e : DisplayLine) :
    (x.putDisplay d).putDisplay e = x.putDisplay e := by
  have twice : ∀ ls : List StationLine, (ls.map fun l => if l.isDisplay then StationLine.display d else l).map
      (fun l => if l.isDisplay then .display e else l) = ls.map fun l => if l.isDisplay then .display e else l := by
    intro ls
    rw [List.map_map]
    refine List.map_congr_left fun l _ => ?_
    cases l <;> rfl
  have any : ∀ ls : List StationLine, (ls.map fun l => if l.isDisplay then StationLine.display d else l).any
      StationLine.isDisplay = ls.any StationLine.isDisplay := by
    intro ls
    rw [List.any_map]
    congr 1
    funext l
    cases l <;> rfl
  have hb : x.begun ≤ x.output.length := by
    unfold Station.begun
    split
    · exact List.length_pos_iff.2 (hx ‹_›)
    · exact Nat.zero_le _
  have hl : (x.output.take x.begun).length = x.begun := by simpa using hb
  by_cases h : (x.output.drop x.begun).any StationLine.isDisplay = true
  · have hd : x.putDisplay d = { x with
        output := x.output.take x.begun ++ (x.output.drop x.begun).map (fun l => if l.isDisplay then .display d else l) } :=
      if_pos h
    have hn : (x.putDisplay d).begun = x.begun := by rw [hd]; rfl
    rw [Station.putDisplay, hn, hd]
    simp only [List.take_left' hl, List.drop_left' hl, any, h, if_true, twice]
    exact (if_pos h).symm
  · have hd : x.putDisplay d = { x with output := x.output ++ [.display d] } := if_neg h
    have hn : (x.putDisplay d).begun = x.begun := by rw [hd]; rfl
    rw [Station.putDisplay, hn, hd]
    simp only [List.take_append_of_le_length hb, List.drop_append_of_le_length hb]
    have he : (x.output.drop x.begun ++ [StationLine.display d]).map
        (fun l : StationLine => if l.isDisplay then StationLine.display e else l) = x.output.drop x.begun ++ [.display e] := by
      rw [List.map_append]
      refine congrArg₂ _ ((List.map_congr_left fun l hl => ?_).trans (List.map_id _)) rfl
      have : l.isDisplay = false := by
        by_contra hc
        exact h (List.any_eq_true.2 ⟨l, hl, by simpa using hc⟩)
      simp [this]
    rw [he, if_pos (by simp [StationLine.isDisplay]), ← List.append_assoc, List.take_append_drop]
    exact (if_neg h).symm

/-- The board that a station's display shows. -/
theorem Station.showing_iff (x : Station) (lug : Lug) : x.Showing lug ↔ x.shown = some lug := by
  unfold Station.Showing Station.shown
  cases x.selection <;> simp

/-- The display of a station does not depend on the output queues. -/
theorem State.displayLine_refresh (s : State) (st k : StationId) : (s.refresh st).displayLine k = s.displayLine k := by
  have h := fun x : Station => x.putDisplay_same (s.displayLine st)
  have hs : ((s.refresh st).station k).shown = (s.station k).shown ∧
      ((s.refresh st).station k).selection = (s.station k).selection := by
    unfold State.refresh
    rw [h]
    cases st <;> cases k <;> exact ⟨rfl, rfl⟩
  unfold State.displayLine
  rw [hs.1, hs.2]
  cases st <;> rfl

/-- A refresh of one station's display changes that station's output queue alone. -/
theorem State.refresh_refreshed (s : State) (st : StationId) :
    (s.station st).Refreshed ((s.refresh st).displayLine st) ((s.refresh st).station st) ∧
      (s.refresh st).station (otherStation st) = s.station (otherStation st) := by
  rw [s.displayLine_refresh]
  exact ⟨by simpa [State.refresh] using Station.putDisplay_refreshed _ _, by simp [State.refresh]⟩

/-- The refresh of the displays that show a board (R122). -/
theorem State.refreshShowing_refreshed (s : State) (lug : Lug) : s.RefreshedFor (s.refreshShowing lug) lug := by
  have hb : ∀ t : State, (t.refresh .a).stationB = t.stationB := fun _ => rfl
  intro st
  rw [Station.showing_iff]
  by_cases h1 : s.stationA.shown = some lug <;> by_cases h2 : s.stationB.shown = some lug <;>
    simp only [State.refreshShowing, h1, h2, hb, if_true, if_false] <;> cases st <;>
    (try simp only [State.displayLine_refresh]) <;> refine ⟨fun h => ?_, fun h => ?_⟩ <;>
    first
    | exact absurd h1 h
    | exact absurd h2 h
    | exact absurd h h1
    | exact absurd h h2
    | trivial
    | rfl
    | exact Station.putDisplay_refreshed _ _

end Sys2Proof.Machine
end

