-- ==== Sys2Proof/Laws/Frames.lean ====
section
/-! SUPPORT. The frame of every shared operation: which parts of the state it can change. -/

namespace Sys2Proof.Machine

variable {s t u : State} {ps qs rs : List Part}

/-! ### How frames go together -/

theorem State.sameBut.refl (s : State) (ps : List Part) : s.sameBut s ps := by
  intro p _; cases p <;> rfl

theorem State.sameBut.mono (h : s.sameBut t ps) (hs : ps ⊆ qs := by decide) : s.sameBut t qs :=
  fun p hp => h p fun hm => hp (hs hm)

/-- Two changes one after the other change no more than the two together. -/
theorem State.sameBut.trans (h : s.sameBut t ps) (h' : t.sameBut u qs) (hp : ps ⊆ rs := by decide)
    (hq : qs ⊆ rs := by decide) : s.sameBut u rs := by
  intro p hn
  have a := h p fun hm => hn (hp hm)
  have b := h' p fun hm => hn (hq hm)
  cases p <;> exact Eq.trans b a

theorem State.sameBut.foldl {α : Type} {f : State → α → State} (h : ∀ (s : State) (x : α), s.sameBut (f s x) ps) (l : List α)
    (s : State) : s.sameBut (l.foldl f s) ps := by
  induction l generalizing s with
  | nil => exact .refl _ _
  | cons x l ih => exact (h s x).trans (ih _) (List.Subset.refl _) (List.Subset.refl _)

theorem State.sameBut.ite {c : Prop} [Decidable c] (h : s.sameBut t ps) (h' : s.sameBut u ps) :
    s.sameBut (if c then t else u) ps := by
  split <;> assumption

/-! ### The updates -/

theorem State.setPower_same (s : State) (x : Power) : s.sameBut (s.setPower x) [.power] := by
  intro q h; cases q <;> first | rfl | exact absurd (List.Mem.head _) h

theorem State.setPins_same (s : State) (x : Pins) : s.sameBut (s.setPins x) [.pins] := by
  intro q h; cases q <;> first | rfl | exact absurd (List.Mem.head _) h

theorem State.setStart_same (s : State) (x : StartInfo) : s.sameBut (s.setStart x) [.start] := by
  intro q h; cases q <;> first | rfl | exact absurd (List.Mem.head _) h

theorem State.setChain_same (s : State) (x : Chain) : s.sameBut (s.setChain x) [.chain] := by
  intro q h; cases q <;> first | rfl | exact absurd (List.Mem.head _) h

theorem State.setLogs_same (s : State) (x : LogScaler) : s.sameBut (s.setLogs x) [.logs] := by
  intro q h; cases q <;> first | rfl | exact absurd (List.Mem.head _) h

theorem State.setScan_same (s : State) (x : Assembler) : s.sameBut (s.setScan x) [.scan] := by
  intro q h; cases q <;> first | rfl | exact absurd (List.Mem.head _) h

theorem State.setTrack_same (s : State) (x : Tracking) : s.sameBut (s.setTrack x) [.track] := by
  intro q h; cases q <;> first | rfl | exact absurd (List.Mem.head _) h

theorem State.setFrames_same (s : State) (x : Frames) : s.sameBut (s.setFrames x) [.frames] := by
  intro q h; cases q <;> first | rfl | exact absurd (List.Mem.head _) h

theorem State.setSolver_same (s : State) (x : Solver) : s.sameBut (s.setSolver x) [.solver] := by
  intro q h; cases q <;> first | rfl | exact absurd (List.Mem.head _) h

theorem State.setStationA_same (s : State) (x : Station) : s.sameBut (s.setStationA x) [.stationA] := by
  intro q h; cases q <;> first | rfl | exact absurd (List.Mem.head _) h

theorem State.setStationB_same (s : State) (x : Station) : s.sameBut (s.setStationB x) [.stationB] := by
  intro q h; cases q <;> first | rfl | exact absurd (List.Mem.head _) h

theorem State.setTrimmer_same (s : State) (x : Trimmer) : s.sameBut (s.setTrimmer x) [.trimmer] := by
  intro q h; cases q <;> first | rfl | exact absurd (List.Mem.head _) h

theorem State.setSorter_same (s : State) (x : Sorter) : s.sameBut (s.setSorter x) [.sorter] := by
  intro q h; cases q <;> first | rfl | exact absurd (List.Mem.head _) h

theorem State.setTally_same (s : State) (x : Tally) : s.sameBut (s.setTally x) [.tally] := by
  intro q h; cases q <;> first | rfl | exact absurd (List.Mem.head _) h

theorem State.setStore_same (s : State) (x : Store) : s.sameBut (s.setStore x) [.store] := by
  intro q h; cases q <;> first | rfl | exact absurd (List.Mem.head _) h

theorem State.setWatch_same (s : State) (x : Watch) : s.sameBut (s.setWatch x) [.watch] := by
  intro q h; cases q <;> first | rfl | exact absurd (List.Mem.head _) h

theorem State.setLink_same (s : State) (x : Link) : s.sameBut (s.setLink x) [.link] := by
  intro q h; cases q <;> first | rfl | exact absurd (List.Mem.head _) h

theorem State.setPending_same (s : State) (x : List Instr) : s.sameBut (s.setPending x) [.pending] := by
  intro q h; cases q <;> first | rfl | exact absurd (List.Mem.head _) h

/-! ### Notices, replies, stations, displays, the end of an event -/

theorem State.notify_same (n : Notice) (s : State) : s.sameBut (s.notify n) [.link] := s.setLink_same _

theorem State.notifyFault_same (f : FaultNotice) (s : State) : s.sameBut (s.notifyFault f) [.link] :=
  s.notify_same _

theorem State.setStation_same (s : State) (st : StationId) (x : Station) :
    s.sameBut (s.setStation st x) [.stationA, .stationB] := by
  cases st
  · exact (s.setStationA_same x).mono
  · exact (s.setStationB_same x).mono

theorem State.updateBoard_same (s : State) (lug : Lug) (f : Board → Board) : s.sameBut (s.updateBoard lug f) [.track] :=
  s.setTrack_same _

theorem State.refresh_same (s : State) (st : StationId) : s.sameBut (s.refresh st) [.stationA, .stationB] :=
  s.setStation_same _ _

theorem State.refreshShowing_same (s : State) (lug : Lug) :
    s.sameBut (s.refreshShowing lug) [.stationA, .stationB] :=
  (State.sameBut.ite (s.refresh_same .a) (.refl _ _)).trans (.ite (State.refresh_same _ .b) (.refl _ _))

theorem State.takeUp_same (s : State) : s.sameBut s.takeUp [.link, .stationA, .stationB] :=
  ((s.setLink_same _).trans (State.setStationA_same _ _) (rs := [.link, .stationA])).trans (State.setStationB_same _ _)

/-! ### The Tally Store -/

theorem State.beginStoreOp_same (s : State) : s.sameBut s.beginStoreOp [.store] := by
  unfold State.beginStoreOp
  split
  · exact .refl _ _
  · split <;> first | exact .refl _ _ | exact s.setStore_same _

theorem State.queueStoreOp_same (s : State) (op : StoreOp) : s.sameBut (s.queueStoreOp op) [.store] :=
  (s.setStore_same _).trans (State.beginStoreOp_same _)

theorem State.requestCheckpoint_same (s : State) : s.sameBut s.requestCheckpoint [.store] := by
  unfold State.requestCheckpoint
  dsimp only
  split
  · exact .refl _ _
  · split
    · exact s.setStore_same _
    · split
      · exact s.setStore_same _
      · exact s.queueStoreOp_same _

theorem State.afterReclaim_same (s : State) : s.sameBut s.afterReclaim [.store] := by
  unfold State.afterReclaim
  refine State.sameBut.trans (ps := [.store]) (qs := [.store]) ?_ (State.beginStoreOp_same _)
  refine State.sameBut.trans (ps := [.store]) (qs := [.store]) ?_ (.ite (State.setStore_same _ _) (.refl _ _))
  exact .ite ((s.setStore_same _).trans (State.requestCheckpoint_same _)) (.refl _ _)

theorem State.settleStore_same (s : State) : s.sameBut s.settleStore [.store] :=
  .ite (.refl _ _) s.afterReclaim_same

theorem State.finishStoreOp_same (s : State) : s.sameBut s.finishStoreOp [.store] :=
  (s.setStore_same _).trans (State.settleStore_same _)

theorem State.storeFull_same (s : State) (k : RecordKind) : s.sameBut (s.storeFull k) [.store, .link] :=
  .ite (.refl _ _) ((s.setStore_same _).trans (State.notifyFault_same _ _))

theorem State.checkpointDone_same (s : State) : s.sameBut s.checkpointDone [.store, .link] := by
  unfold State.checkpointDone
  split
  · refine State.sameBut.trans (ps := [.store, .link]) ?_ (State.finishStoreOp_same _)
    split
    · exact (s.setStore_same _).mono
    · exact (s.storeFull_same _).trans (State.setStore_same _ _)
  · exact .refl _ _

theorem State.periodDone_same (s : State) : s.sameBut s.periodDone [.store, .link] := by
  unfold State.periodDone
  split
  · refine State.sameBut.trans (ps := [.store, .link]) ?_ (State.finishStoreOp_same _)
    split
    · exact (s.setStore_same _).mono
    · exact s.storeFull_same _
  · exact .refl _ _

theorem State.settingsDone_same (s : State) : s.sameBut s.settingsDone [.store, .link] := by
  unfold State.settingsDone
  split
  · refine State.sameBut.trans (ps := [.store, .link]) ?_ (State.finishStoreOp_same _)
    split
    · exact (s.setStore_same _).mono
    · exact (s.notifyFault_same _).mono
  · exact .refl _ _

theorem State.relocateDone_same (s : State) : s.sameBut s.relocateDone [.store] := by
  unfold State.relocateDone
  split
  · refine State.sameBut.trans (ps := [.store]) ?_ (State.finishStoreOp_same _)
    split
    · exact s.setStore_same _
    · exact .refl _ _
  · exact .refl _ _

theorem State.eraseDone_same (s : State) (failed : Bool) : s.sameBut (s.eraseDone failed) [.store] := by
  unfold State.eraseDone
  split
  · exact .refl _ _
  · exact (s.setStore_same _).trans (State.settleStore_same _)

/-! ### The Tally Unit and the Log Scaler -/

theorem State.tallyPiece_same (s : State) (x : Piece) : s.sameBut (s.tallyPiece x) [.tally, .link] := by
  unfold State.tallyPiece
  dsimp only
  split
  · exact (s.setTally_same _).trans (State.notifyFault_same _ _)
  · exact (s.setTally_same _).mono

theorem State.tallyBoard_same (s : State) (r : Result) (a : Bool) : s.sameBut (s.tallyBoard r a) [.tally] :=
  s.setTally_same _

theorem State.fillOrder_same (s : State) (x : Piece) (lug : Lug) : s.sameBut (s.fillOrder x lug) [.tally, .link] := by
  unfold State.fillOrder
  split
  · exact .refl _ _
  · exact .ite ((s.setTally_same _).trans (State.notify_same _ _)) (s.setTally_same _).mono

theorem State.countAccepted_same (s : State) : s.sameBut s.countAccepted [.tally, .store] :=
  .ite ((s.setTally_same _).trans (State.requestCheckpoint_same _)) (s.setTally_same _).mono

theorem State.tallyResult_same (s : State) (r : Result) (a : Bool) (lug : Lug) :
    s.sameBut (s.tallyResult r a lug) [.tally, .store, .link] := by
  unfold State.tallyResult
  split
  · refine State.sameBut.trans (ps := [.tally, .link]) ?_ (State.countAccepted_same _)
    split
    · exact ((s.tallyPiece_same _).trans (State.tallyBoard_same _ _ _) (rs := [.tally, .link])).trans
        (State.fillOrder_same _ _ _)
    · exact (s.tallyBoard_same _ _).mono
  · exact (s.tallyBoard_same _ _).mono

theorem State.tallyLog_same (s : State) (r : Recovery) : s.sameBut (s.tallyLog r) [.tally] := s.setTally_same _

theorem State.closeTally_same (s : State) : s.sameBut s.closeTally [.tally, .store] :=
  ((s.queueStoreOp_same _).trans (State.setTally_same _ _) (rs := [.tally, .store])).trans
    (State.requestCheckpoint_same _)

theorem State.closeLog_same (s : State) (l : Log) : s.sameBut (s.closeLog l) [.tally, .link, .logs] :=
  ((s.tallyLog_same _).trans (State.notify_same _ _) (rs := [.tally, .link])).trans (State.setLogs_same _ _)

theorem State.updateLog_same (s : State) (id : Nat) (f : Log → Log) : s.sameBut (s.updateLog id f) [.logs] :=
  s.setLogs_same _

theorem State.closeIfDone_same (s : State) (id : Nat) : s.sameBut (s.closeIfDone id) [.tally, .link, .logs] := by
  unfold State.closeIfDone
  split
  · exact .ite (s.closeLog_same _) (.refl _ _)
  · exact .refl _ _

theorem State.forceClose_same (s : State) (l : Log) : s.sameBut (s.forceClose l) [.tally, .link, .logs, .track] :=
  ((s.setTrack_same _).trans (State.setLogs_same _ _) (rs := [.logs, .track])).trans (State.closeLog_same _ _)

theorem State.makeLogRoom_same (s : State) : s.sameBut s.makeLogRoom [.tally, .link, .logs, .track] := by
  unfold State.makeLogRoom
  split
  · split
    · exact s.forceClose_same _
    · exact .refl _ _
  · exact .refl _ _

theorem State.createLog_same (s : State) (f : LogFigures) (c d : Bool) :
    s.sameBut (s.createLog f c d) [.tally, .link, .logs, .track] :=
  s.makeLogRoom_same.trans (State.setLogs_same _ _)

theorem State.takeLogScan_same (s : State) (ds : List Nat) :
    s.sameBut (s.takeLogScan ds) [.tally, .link, .logs, .track] :=
  .ite ((s.setLogs_same _).trans (State.notifyFault_same _ _))
    (.ite ((s.setLogs_same _).trans (State.notifyFault_same _ _)) (s.createLog_same _ _ _))

theorem State.startLog_same (s : State) : s.sameBut s.startLog.1 [.logs] := by
  unfold State.startLog
  split
  · exact .refl _ _
  · split
    · exact s.updateLog_same _ _
    · exact .refl _ _

theorem State.cutLog_same (s : State) (id count straggler : Nat) :
    s.sameBut (s.cutLog id count straggler).1 [.tally, .link, .logs] := by
  unfold State.cutLog
  split
  · split
    · exact (s.updateLog_same _ _).trans (State.closeIfDone_same _ _)
    · exact .refl _ _
  · exact .refl _ _

theorem State.attribute_same (s : State) (lug : Lug) : s.sameBut (s.attribute lug) [.logs, .track] := by
  unfold State.attribute
  split
  · exact (s.updateLog_same _ _).trans (State.updateBoard_same _ _ _)
  · exact .refl _ _

theorem State.serviceStraggler_same (s : State) (id : Nat) :
    s.sameBut (s.serviceStraggler id) [.tally, .link, .logs] := by
  unfold State.serviceStraggler
  split
  · exact .ite (.ite ((s.updateLog_same _ _).trans (State.closeIfDone_same _ _)) (s.updateLog_same _ _).mono) (.refl _ _)
  · exact .refl _ _

theorem State.logResult_same (s : State) (r : Result) (id : Nat) :
    s.sameBut (s.logResult r id) [.tally, .link, .logs] :=
  (s.updateLog_same _ _).trans (State.closeIfDone_same _ _)

theorem State.boardResult_same (s : State) (b : Board) (r : Result) :
    s.sameBut (s.boardResult b r) [.tally, .store, .link, .logs] := by
  unfold State.boardResult
  dsimp only
  split
  · exact (s.tallyResult_same _ _ _).trans (State.logResult_same _ _ _)
  · exact (s.tallyResult_same _ _ _).mono

/-! ### The Trim Solver, the Frame Chain, the Watch Unit -/

theorem State.beginSolve_same (s : State) : s.sameBut s.beginSolve [.solver] := by
  unfold State.beginSolve
  split
  · exact s.setSolver_same _
  · exact .refl _ _

theorem State.requestSolve_same (s : State) (lug : Lug) (r : Reason) : s.sameBut (s.requestSolve lug r) [.solver] :=
  (s.setSolver_same _).trans (State.beginSolve_same _)

theorem State.requestResolve_same (s : State) (lug : Lug) (r : Reason) :
    s.sameBut (s.requestResolve lug r) [.solver, .track] := by
  unfold State.requestResolve
  split
  · exact .refl _ _
  · split
    · exact (s.requestSolve_same _ _).mono
    · exact (s.updateBoard_same _ _).trans (State.requestSolve_same _ _ _)
    · exact .refl _ _

theorem State.notifyHold_same (s : State) (c : HoldCause) (h : Hold) (n : Nat) :
    s.sameBut (s.notifyHold c h n) [.link] := s.notify_same _

theorem State.removeHold_same (s : State) (h : Hold) (c : HoldCause) (n : Nat) :
    s.sameBut (s.removeHold h c n) [.frames, .link, .stationA, .stationB] :=
  ((s.setFrames_same _).trans (State.notifyHold_same _ _ _ _) (rs := [.frames, .link])).trans (State.refresh_same _ _)

theorem State.closeFrames_same (s : State) : s.sameBut s.closeFrames [.frames, .link, .stationA, .stationB] :=
  (State.sameBut.foldl (fun s h => s.removeHold_same h .runClosed h.timer.remaining) _ s).trans
    (State.setFrames_same _ _)

theorem State.openFrames_same (s : State) (es : List (Nat × Nat)) : s.sameBut (s.openFrames es) [.frames] :=
  s.setFrames_same _

theorem State.expireHold_same (s : State) (code : Nat) :
    s.sameBut (s.expireHold code) [.frames, .link, .stationA, .stationB] := by
  unfold State.expireHold
  split
  · exact s.removeHold_same _ _ _
  · exact .refl _ _

theorem State.cancelHold_same (s : State) (st : StationId) :
    s.sameBut (s.cancelHold st).1 [.frames, .link, .stationA, .stationB] := by
  unfold State.cancelHold
  split
  · exact s.removeHold_same _ _ _
  · exact .refl _ _

theorem State.resolveForHold_same (s : State) (st : StationId) : s.sameBut (s.resolveForHold st) [.solver, .track] :=
  .foldl (fun s lug => s.requestResolve_same lug .hold) _ s

theorem State.createHold_same (s : State) (st : StationId) (g n : Nat) :
    s.sameBut (s.createHold st g n) [.frames, .link, .solver, .track, .stationA, .stationB] :=
  (((s.setFrames_same _).trans (State.notifyHold_same _ _ _ _) (rs := [.frames, .link])).trans
    (State.resolveForHold_same _ _) (rs := [.frames, .link, .solver, .track])).trans (State.refresh_same _ _)

theorem State.retriggerHold_same (s : State) (h : Hold) (n : Nat) :
    s.sameBut (s.retriggerHold h n).1 [.frames, .stationA, .stationB] := by
  unfold State.retriggerHold
  split
  · exact (s.setFrames_same _).trans (State.refresh_same _ _)
  · exact .refl _ _

theorem State.pushHold_same (s : State) (st : StationId) (g n : Nat) :
    s.sameBut (s.pushHold st g n).1 [.frames, .link, .solver, .track, .stationA, .stationB] := by
  unfold State.pushHold
  split
  · exact (s.retriggerHold_same _ _).mono
  · split
    · exact .refl _ _
    · split
      · exact .refl _ _
      · exact s.createHold_same _ _ _

theorem State.hit_same (s : State) (k : Nat) (p : WatchProgram) (point : Point) (lug : Lug) :
    s.sameBut (s.hit k p point lug) [.track, .watch, .link] := by
  unfold State.hit
  dsimp only
  refine State.sameBut.trans (ps := [.track, .watch, .link]) ?_ (.ite (State.setWatch_same _ _) (.refl _ _))
  exact ((s.updateBoard_same _ _).trans (State.setWatch_same _ _) (rs := [.track, .watch])).trans
    (State.notify_same _ _)

theorem State.testSlot_same (s : State) (point : Point) (lug : Lug) (k : Nat) :
    s.sameBut (s.testSlot point lug k) [.track, .watch, .link] := by
  unfold State.testSlot
  split
  · split
    · exact s.hit_same _ _ _ _
    · exact .refl _ _
  · exact .refl _ _

theorem State.watchHand_same (s : State) (point : Point) (lug : Lug) :
    s.sameBut (s.watchHand point lug) [.track, .watch, .link] :=
  .foldl (fun s k => s.testSlot_same point lug k) _ s

/-! ### The Tracking Table -/

/-- What a board's result can change: its record, the displays, the accounts, the store's queue, the notices. -/
def Part.result : List Part := [.track, .stationA, .stationB, .tally, .store, .link, .logs]

theorem State.enterResult_same (s : State) (b : Board) (f : Board → Board) (r : Result) :
    s.sameBut (s.enterResult b f r) Part.result :=
  ((s.updateBoard_same _ _).trans (State.refreshShowing_same _ _) (rs := [.track, .stationA, .stationB])).trans
    (State.boardResult_same _ _ _)

theorem State.missBoard_same (s : State) (b : Board) (f : BoardFlags → BoardFlags) :
    s.sameBut (s.missBoard b f) Part.result := s.enterResult_same _ _ _

theorem State.acceptBoard_same (s : State) (lug : Lug) : s.sameBut (s.acceptBoard lug) Part.result := by
  unfold State.acceptBoard
  split
  · split
    · exact s.enterResult_same _ _ _
    · exact .refl _ _
  · exact .refl _ _

/-- What a commit can change. -/
def Part.commit : List Part := [.trimmer, .watch] ++ Part.result

theorem State.makeCommit_same (s : State) (lug : Lug) : s.sameBut (s.makeCommit lug) Part.commit := by
  unfold State.makeCommit
  split
  · split
    · refine State.sameBut.trans (ps := [.trimmer] ++ Part.result) ?_ (State.watchHand_same _ _ _)
      refine (s.setTrimmer_same _).trans (State.sameBut.ite (ps := Part.result) ?_ (State.missBoard_same _ _ _))
      exact (State.updateBoard_same _ _ _).trans (State.refreshShowing_same _ _)
    · exact .refl _ _
  · exact .refl _ _

theorem State.commitEvent_same (s : State) (lug : Lug) : s.sameBut (s.commitEvent lug) Part.commit := by
  unfold State.commitEvent
  split
  · split
    · exact s.makeCommit_same _
    · exact (s.updateBoard_same _ _).mono
    · exact .refl _ _
  · exact .refl _ _

theorem State.withdrawDecision_same (s : State) (b : Board) :
    s.sameBut (s.withdrawDecision b) ([.trimmer] ++ Part.result) := by
  unfold State.withdrawDecision
  split
  · exact (s.setTrimmer_same _).trans (State.missBoard_same _ _ _)
  · exact .refl _ _

theorem State.deadlineEvent_same (s : State) (lug : Lug) :
    s.sameBut (s.deadlineEvent lug) ([.trimmer, .solver] ++ Part.result) := by
  unfold State.deadlineEvent
  split
  · split
    · exact ((s.setSolver_same _).trans (State.setTrack_same _ _) (rs := [.solver, .track])).trans
        (State.missBoard_same _ _ _)
    · exact (s.withdrawDecision_same _).mono
    · exact .refl _ _
  · exact .refl _ _

theorem State.select_same (s : State) (st : StationId) (x y : Option Lug) :
    s.sameBut (s.select st x y) [.stationA, .stationB] :=
  (s.setStation_same _ _).trans (State.refresh_same _ _)

theorem State.markEvent_same (s : State) (st : StationId) (lug : Lug) :
    s.sameBut (s.markEvent st lug) [.track, .stationA, .stationB] :=
  (s.updateBoard_same _ _).trans (State.select_same _ _ _ _)

theorem State.windowEndEvent_same (s : State) (st : StationId) (lug : Lug) :
    s.sameBut (s.windowEndEvent st lug) [.track, .stationA, .stationB] := by
  unfold State.windowEndEvent
  dsimp only
  split
  · split
    · exact (s.updateBoard_same _ _).trans (State.select_same _ _ _ _)
    · exact (s.updateBoard_same _ _).trans (State.select_same _ _ _ _)
  · exact (s.updateBoard_same _ _).mono

theorem State.dropLast_same (s : State) (st : StationId) (lug : Lug) :
    s.sameBut (s.dropLast st lug) [.stationA, .stationB] :=
  .ite (s.select_same _ _ _) (.refl _ _)

theorem State.removeBoard_same (s : State) (lug : Lug) :
    s.sameBut (s.removeBoard lug) [.track, .stationA, .stationB] :=
  ((s.setTrack_same _).trans (State.dropLast_same _ _ _) (rs := [.track, .stationA, .stationB])).trans
    (State.dropLast_same _ _ _)

theorem State.sortEvent_same (s : State) (lug : Lug) :
    s.sameBut (s.sortEvent lug) [.sorter, .track, .watch, .link, .stationA, .stationB] := by
  unfold State.sortEvent
  split
  · split
    · refine State.sameBut.trans (ps := [.sorter, .track, .watch, .link]) ?_ (State.removeBoard_same _ _)
      refine State.sameBut.trans (ps := [.sorter, .track, .watch, .link]) ?_ (State.notify_same _ _)
      exact ((s.setSorter_same _).trans (State.updateBoard_same _ _ _) (rs := [.sorter, .track])).trans
        (State.watchHand_same _ _ _)
    · exact .refl _ _
  · exact .refl _ _

/-- What the offset events of a boundary can change. -/
def Part.offsets : List Part := [.sorter, .solver] ++ Part.commit

theorem State.offsetEvents_same (s : State) (lug : Lug) : s.sameBut (s.offsetEvents lug) Part.offsets := by
  unfold State.offsetEvents
  dsimp only
  refine State.sameBut.trans (ps := Part.offsets) (qs := Part.offsets) ?_
    (.ite (State.sortEvent_same _ _).mono (.refl _ _))
  refine State.sameBut.trans (ps := Part.offsets) (qs := Part.offsets) ?_
    (.ite (State.deadlineEvent_same _ _).mono (.refl _ _))
  refine State.sameBut.trans (ps := Part.offsets) (qs := Part.offsets) ?_
    (.ite (State.commitEvent_same _ _).mono (.refl _ _))
  refine State.sameBut.trans (ps := Part.offsets) (qs := Part.offsets) ?_
    (.ite (State.windowEndEvent_same _ _ _).mono (.refl _ _))
  refine State.sameBut.trans (ps := Part.offsets) (qs := Part.offsets) ?_
    (.ite (State.windowEndEvent_same _ _ _).mono (.refl _ _))
  refine State.sameBut.trans (ps := Part.offsets) (qs := Part.offsets) ?_
    (.ite (State.markEvent_same _ _ _).mono (.refl _ _))
  exact .ite (s.markEvent_same _ _).mono (.refl _ _)

theorem State.trackBoundary_same (s : State) (presence : Bool) :
    s.sameBut (s.trackBoundary presence) Part.offsets := by
  unfold State.trackBoundary
  dsimp only
  exact State.sameBut.trans (ps := Part.offsets) (.ite (s.setTrack_same _).mono (.refl _ _))
    (.foldl State.offsetEvents_same _ _)

theorem State.settleSolve_same (s : State) (lug : Lug) (more : Bool) :
    s.sameBut (s.settleSolve lug more) Part.commit := by
  unfold State.settleSolve
  split
  · split
    · exact .refl _ _
    · exact .ite (s.makeCommit_same _) (s.updateBoard_same _ _).mono
  · exact .refl _ _

theorem State.takeSolve_same (s : State) (v : Solve) (more : Bool) : s.sameBut (s.takeSolve v more) Part.commit := by
  unfold State.takeSolve
  split
  · split
    · refine State.sameBut.trans (ps := Part.commit) ?_ (State.refreshShowing_same _ _)
      exact ((s.updateBoard_same _ _).trans (State.watchHand_same _ _ _) (rs := [.track, .watch, .link])).trans
        (State.settleSolve_same _ _ _)
    · exact .refl _ _
  · exact .refl _ _

theorem State.completeSolve_same (s : State) : s.sameBut s.completeSolve ([.solver] ++ Part.commit) := by
  unfold State.completeSolve
  split
  · exact .refl _ _
  · refine State.sameBut.trans (ps := [.solver] ++ Part.commit) ?_ (State.beginSolve_same _)
    exact ((s.setSolver_same _).trans (State.takeSolve_same _ _ _) (rs := [.solver] ++ Part.commit)).trans
      (State.setSolver_same _ _)

theorem State.loseBoard_same (s : State) (lug : Lug) :
    s.sameBut (s.loseBoard lug) [.track, .tally, .store, .link, .logs] := by
  unfold State.loseBoard
  split
  · dsimp only
    exact State.sameBut.trans (ps := [.tally, .store, .link, .logs]) (.ite (s.boardResult_same _ _) (.refl _ _))
      (State.setTrack_same _ _)
  · exact .refl _ _

theorem State.clearLine_same (s : State) :
    s.sameBut s.clearLine ([.scan, .solver, .trimmer] ++ Part.result) := by
  unfold State.clearLine
  dsimp only
  refine State.sameBut.trans (ps := [.scan, .solver, .trimmer] ++ Part.result) ?_ (State.select_same _ _ _ _)
  refine State.sameBut.trans (ps := [.scan, .solver, .trimmer] ++ Part.result) ?_ (State.select_same _ _ _ _)
  refine State.sameBut.trans (ps := [.scan, .solver, .trimmer] ++ Part.result) ?_ (State.setTrimmer_same _ _)
  refine State.sameBut.trans (ps := [.scan, .solver, .trimmer] ++ Part.result) ?_ (State.setSolver_same _ _)
  exact (State.sameBut.foldl State.loseBoard_same _ s).trans (State.setScan_same _ _)

/-! ### The Scan Assembler and the Chain Interface -/

theorem State.takeHeadFrame_same (s : State) (h : Nat) (f : HeadFrame) :
    s.sameBut (s.takeHeadFrame h f) [.scan, .track] := by
  unfold State.takeHeadFrame
  dsimp only
  split
  · exact (s.setScan_same _).mono
  · split
    · exact (s.setScan_same _).trans (State.updateBoard_same _ _ _)
    · exact (s.setScan_same _).mono
    · exact (s.setScan_same _).mono

theorem State.takeDefectFrame_same (s : State) (f : DefectFrame) : s.sameBut (s.takeDefectFrame f) [.scan] :=
  s.setScan_same _

theorem State.settleHeads_same (s : State) (lug : Lug) : s.sameBut (s.settleHeads lug) [.scan, .track] := by
  unfold State.settleHeads
  dsimp only
  split
  · exact .refl _ _
  · exact (s.setScan_same _).trans (State.updateBoard_same _ _ _)

theorem State.settleDefects_same (s : State) (lug : Lug) : s.sameBut (s.settleDefects lug) [.scan, .track, .link] := by
  unfold State.settleDefects
  split
  · exact .ite (s.updateBoard_same _ _).mono
      (((s.setScan_same _).trans (State.updateBoard_same _ _ _) (rs := [.scan, .track])).trans
        (State.notifyFault_same _ _))
  · exact (s.updateBoard_same _ _).mono

theorem State.settleMiss_same (s : State) (lug : Lug) : s.sameBut (s.settleMiss lug) [.scan, .link] := by
  unfold State.settleMiss
  dsimp only
  exact .ite (.ite (s.setScan_same _).mono (.ite ((s.setScan_same _).trans (State.notifyFault_same _ _))
    (s.setScan_same _).mono)) (.refl _ _)

/-- What the close of a board's window can change. -/
def Part.assembly : List Part := [.scan, .track, .link, .logs, .solver]

theorem State.closeWindow_same (s : State) (lug : Lug) : s.sameBut (s.closeWindow lug) Part.assembly := by
  unfold State.closeWindow
  dsimp only
  refine State.sameBut.trans (ps := Part.assembly) ?_ (State.requestSolve_same _ _ _)
  refine State.sameBut.trans (ps := Part.assembly) ?_ (State.updateBoard_same _ _ _)
  refine State.sameBut.trans (ps := Part.assembly) ?_ (State.attribute_same _ _)
  refine State.sameBut.trans (ps := Part.assembly) ?_ (State.updateBoard_same _ _ _)
  refine State.sameBut.trans (ps := Part.assembly) ?_ (State.settleMiss_same _ _)
  exact (s.settleHeads_same _).trans (State.settleDefects_same _ _)

theorem State.scanBoundary_same (s : State) (presence : Bool) : s.sameBut (s.scanBoundary presence) Part.assembly := by
  unfold State.scanBoundary
  dsimp only
  refine State.sameBut.trans (ps := Part.assembly) ?_ (State.setScan_same _ _)
  split
  · exact .ite (s.closeWindow_same _) (.refl _ _)
  · exact .refl _ _

theorem State.countersBoundary_same (s : State) (run : Bool) : s.sameBut (s.countersBoundary run) [.frames, .logs] :=
  .ite ((s.setFrames_same _).trans (State.setLogs_same _ _)) (.refl _ _)

/-- What a lug boundary can change. -/
def Part.boundary : List Part := [.pins, .chain, .scan, .frames] ++ Part.offsets

theorem State.serviceExpiries_same (s : State) : s.sameBut s.serviceExpiries Part.boundary :=
  (State.sameBut.foldl State.serviceStraggler_same _ s).trans
    (.foldl (fun s h => s.removeHold_same h .expired 0) _ _)

theorem State.boardsBoundary_same (s : State) (x : BoundarySample) : s.sameBut (s.boardsBoundary x) Part.boundary := by
  unfold State.boardsBoundary
  split
  · exact (s.trackBoundary_same _).trans (State.scanBoundary_same _ _)
  · exact (s.scanBoundary_same _).trans (State.trackBoundary_same _ _)

theorem State.handBoundary_same (s : State) (x : BoundarySample) : s.sameBut (s.handBoundary x) Part.boundary :=
  .ite (((s.countersBoundary_same _).trans (State.serviceExpiries_same _) (rs := Part.boundary)).trans
      (State.boardsBoundary_same _ _))
    ((s.boardsBoundary_same _).trans (State.countersBoundary_same _ _))

theorem State.lugBoundary_same (s : State) (x : BoundarySample) : s.sameBut (s.lugBoundary x) Part.boundary :=
  ((s.setPins_same _).trans (State.setChain_same _ _) (rs := [.pins, .chain])).trans (State.handBoundary_same _ _)

theorem State.countPulse_same (s : State) (c : PulseClass) (x : BoundarySample) :
    s.sameBut (s.countPulse c x) Part.boundary := by
  unfold State.countPulse
  split
  · unfold State.forwardPulse
    dsimp only
    exact .ite (s.setChain_same _).mono (.ite (s.setChain_same _).mono
      ((s.setChain_same _).trans (State.lugBoundary_same _ _)))
  · exact (s.setChain_same _).mono
  · exact (s.setChain_same _).mono
  · exact .refl _ _

theorem State.slip_same (s : State) (d : Nat) (early : Bool) : s.sameBut (s.slip d early) [.chain, .link, .track] :=
  ((s.setChain_same _).trans (State.notifyFault_same _ _) (rs := [.chain, .link])).trans (State.setTrack_same _ _)

theorem State.syncEye_same (s : State) (x : BoundarySample) : s.sameBut (s.syncEye x) Part.boundary := by
  unfold State.syncEye
  dsimp only
  split
  · have b := s.setChain_same { s.chain with phase := 0, boundaryMark := false, aligned := true }
    have h : s.sameBut (if s.chain.boundaryMark then _ else State.lugBoundary _ x) Part.boundary :=
      .ite b.mono (b.trans (State.lugBoundary_same _ x))
    exact .ite (h.trans (State.slip_same _ _ _)) h
  · exact (s.setChain_same _).mono

theorem State.stopLine_same (s : State) : s.sameBut s.stopLine [.chain, .link, .trimmer, .store] := by
  unfold State.stopLine
  split
  · refine State.sameBut.trans (ps := [.chain, .link, .trimmer]) ?_ (State.requestCheckpoint_same _)
    exact ((s.setChain_same _).trans (State.notify_same _ _) (rs := [.chain, .link])).trans (State.setTrimmer_same _ _)
  · exact .refl _ _

theorem State.resumeLine_same (s : State) : s.sameBut s.resumeLine.1 [.chain, .trimmer] := by
  unfold State.resumeLine
  split
  · exact .refl _ _
  · split
    · exact .refl _ _
    · exact (s.setChain_same _).trans (State.setTrimmer_same _ _)

theorem State.acceptPresented_same (s : State) : s.sameBut s.acceptPresented ([.trimmer] ++ Part.result) := by
  unfold State.acceptPresented
  split
  · exact (s.setTrimmer_same _).trans (State.acceptBoard_same _ _)
  · exact .refl _ _

theorem State.ackRises_same (s : State) : s.sameBut s.ackRises ([.trimmer] ++ Part.result) := by
  unfold State.ackRises
  split
  · exact s.acceptPresented_same
  · exact (s.setTrimmer_same _).trans (State.notifyFault_same _ _)
  · exact .refl _ _

theorem State.ackFalls_same (s : State) : s.sameBut s.ackFalls [.trimmer] := by
  unfold State.ackFalls
  split
  · exact s.setTrimmer_same _
  · exact .refl _ _

theorem State.pulseEnds_same (s : State) : s.sameBut s.pulseEnds ([.trimmer] ++ Part.result) := by
  unfold State.pulseEnds
  split
  · exact s.acceptPresented_same
  · exact .refl _ _

theorem State.pulseGapEnds_same (s : State) : s.sameBut s.pulseGapEnds [.trimmer] := by
  unfold State.pulseGapEnds
  split
  · exact s.setTrimmer_same _
  · exact .refl _ _

/-! ### Stations -/

theorem State.answer_same (s : State) (st : StationId) (r : StationReply) :
    s.sameBut (s.answer st r) [.stationA, .stationB] := s.setStation_same _ _

theorem State.tellSuperseded_same (s : State) (held : Option Override) (st : StationId) (lug : Lug) :
    s.sameBut (s.tellSuperseded held st lug) [.stationA, .stationB] := by
  unfold State.tellSuperseded
  split
  · exact .ite (.refl _ _) (s.setStation_same _ _)
  · exact .refl _ _

/-- What a key can change. -/
def Part.key : List Part := [.stationA, .stationB, .track, .solver, .frames, .link]

theorem State.writeOverride_same (s : State) (st : StationId) (k : BoardKey) (b : Board) :
    s.sameBut (s.writeOverride st k b) [.stationA, .stationB, .track, .solver] := by
  unfold State.writeOverride
  dsimp only
  refine State.sameBut.trans (ps := [.stationA, .stationB, .track, .solver]) ?_ (State.refreshShowing_same _ _)
  refine State.sameBut.trans (ps := [.stationA, .stationB, .track]) ?_
    (.ite (.refl _ _) (State.requestResolve_same _ _ _))
  exact (s.updateBoard_same _ _).trans (State.tellSuperseded_same _ _ _ _)

theorem State.boardKey_same (s : State) (st : StationId) (k : BoardKey) :
    s.sameBut (s.boardKey st k) [.stationA, .stationB, .track, .solver] := by
  unfold State.boardKey
  dsimp only
  split
  · exact (s.answer_same _ _).trans (State.writeOverride_same _ _ _ _)
  · exact (s.answer_same _ _).mono

theorem State.selectOlder_same (s : State) (st : StationId) :
    s.sameBut (s.selectOlder st).1 [.stationA, .stationB] := by
  unfold State.selectOlder
  split
  · exact s.select_same _ _ _
  · exact .refl _ _

theorem State.answerFirst_same {f : State → State × StationReply} {ps : List Part}
    (h : ∀ s : State, s.sameBut (f s).1 ps) (s : State) (st : StationId)
    (hp : [Part.stationA, .stationB] ⊆ ps := by decide) : s.sameBut (s.answerFirst st f) ps :=
  (s.answer_same _ _).trans (h _) hp (List.Subset.refl _)

theorem State.actKey_same (s : State) (st : StationId) (k : Key) : s.sameBut (s.actKey st k) Part.key := by
  cases k
  · exact (s.boardKey_same _ _).mono
  · exact (s.boardKey_same _ _).mono
  · exact (s.boardKey_same _ _).mono
  · exact (s.boardKey_same _ _).mono
  · exact State.answerFirst_same (fun s => (s.selectOlder_same st).mono) s st
  · exact State.answerFirst_same (fun s => (s.pushHold_same st _ _).mono) s st
  · exact State.answerFirst_same (fun s => (s.cancelHold_same st).mono) s st
  · exact State.answerFirst_same (fun s => (s.refresh_same st).mono) s st

theorem State.syntaxRecord_same (s : State) (st : StationId) :
    s.sameBut (s.syntaxRecord st) [.stationA, .stationB] :=
  (s.setStation_same _ _).trans (State.answer_same _ _ _)

theorem State.takeRecord_same {act : State → State} (h : ∀ t : State, t.sameBut (act t) Part.key) (s : State)
    (st : StationId) : s.sameBut (s.takeRecord st act) Part.key :=
  .ite (s.setStation_same _ _).mono ((s.setStation_same _ _).trans (h _))

theorem State.stationKey_same (s : State) (st : StationId) (k : Key) : s.sameBut (s.stationKey st k) Part.key := by
  unfold State.stationKey
  split
  · exact (State.takeRecord_same (fun t => .ite (t.actKey_same _ _) (t.syntaxRecord_same _).mono) s st).trans
      (State.takeUp_same _)
  · exact (s.setStation_same _ _).mono
  · exact .refl _ _

theorem State.endRecord_same (s : State) (st : StationId) : s.sameBut (s.endRecord st) Part.key := by
  unfold State.endRecord
  refine .ite (s.setStation_same _ _).mono (State.takeRecord_same (fun t => ?_) s st)
  split
  · exact t.actKey_same _ _
  · exact (t.syntaxRecord_same _).mono

theorem State.stationCharacter_same (st : StationId) (s : State) (c : RxChar) :
    s.sameBut (State.stationCharacter st s c) Part.key := by
  unfold State.stationCharacter
  dsimp only
  exact State.sameBut.trans (qs := Part.key) (s.setStation_same _ _)
    (.ite ((State.endRecord_same _ _).trans (State.takeUp_same _)) (.refl _ _))

theorem State.stationCharacters_same (s : State) (st : StationId) (received : List RxChar) :
    s.sameBut (s.stationCharacters st received) Part.key :=
  .ite (.foldl (State.stationCharacter_same st) _ _) (.refl _ _)

/-! ### Requests -/

theorem State.reply_same (s : State) (type tag : Byte) (code : ReplyCode) (data : List Byte) :
    s.sameBut (s.reply type tag code data) [.link] := s.setLink_same _

theorem State.tellRunChange_same (s : State) : s.sameBut s.tellRunChange [.scan, .watch] :=
  (s.setScan_same _).trans (State.setWatch_same _ _)

/-- What a run change can change. -/
def Part.run : List Part := [.solver, .frames, .link, .stationA, .stationB, .scan, .watch]

theorem State.closeRun_same (s : State) : s.sameBut s.closeRun Part.run :=
  ((s.setSolver_same _).trans (State.closeFrames_same _) (rs := Part.run)).trans (State.tellRunChange_same _)

theorem State.openRun_same (s : State) (f : OpenFields) : s.sameBut (s.openRun f) Part.run := by
  unfold State.openRun
  dsimp only
  refine State.sameBut.trans (ps := Part.run) ?_ (State.tellRunChange_same _)
  refine State.sameBut.trans (ps := Part.run) ?_ (State.openFrames_same _ _)
  exact State.sameBut.trans (ps := Part.run) (.ite s.closeRun_same (.refl _ _)) (State.setSolver_same _ _)

theorem State.applySettings_same (s : State) (f : SaveFields) :
    s.sameBut (s.applySettings f) [.stationA, .stationB, .trimmer, .tally] :=
  (((s.setStationA_same _).trans (State.setStationB_same _ _) (rs := [.stationA, .stationB])).trans
    (State.setTrimmer_same _ _) (rs := [.stationA, .stationB, .trimmer])).trans (State.setTally_same _ _)

/-- What a request's owner can change. -/
def Part.owner : List Part :=
  [.chain, .logs, .scan, .track, .frames, .solver, .stationA, .stationB, .trimmer, .sorter, .tally, .store, .watch,
   .link]

theorem State.refuse_same (s : State) (c : ReplyCode) (ps : List Part) : s.sameBut (s.refuse c).1 ps := .refl _ _

theorem State.acceptWith_same (s : State) (d : List Byte) (ps : List Part) : s.sameBut (s.acceptWith d).1 ps := .refl _ _

theorem State.doSetLine_same (body : List Byte) (s : State) : s.sameBut (s.doSetLine body).1 [.chain] := by
  unfold State.doSetLine
  dsimp only
  split
  · split
    · exact s.setChain_same _
    · exact .refl _ _
  · exact .refl _ _

theorem State.doSetBase_same (body : List Byte) (s : State) : s.sameBut (s.doSetBase body).1 [.frames] := by
  unfold State.doSetBase
  split
  · exact .refl _ _
  · exact s.setFrames_same _

theorem State.doSaveSettings_same (body : List Byte) (s : State) :
    s.sameBut (s.doSaveSettings body).1 [.stationA, .stationB, .trimmer, .tally, .store] := by
  unfold State.doSaveSettings
  dsimp only
  split
  · exact .refl _ _
  · split
    · exact .refl _ _
    · split
      · exact .refl _ _
      · split
        · exact .refl _ _
        · exact ((s.applySettings_same _).trans (State.queueStoreOp_same _ _)
            (rs := [.stationA, .stationB, .trimmer, .tally, .store])).trans (State.requestCheckpoint_same _)

theorem State.doCloseRun_same (s : State) : s.sameBut s.doCloseRun.1 Part.run := by
  unfold State.doCloseRun
  split
  · exact s.closeRun_same
  · exact .refl _ _

theorem State.doOpenRun_same (body : List Byte) (s : State) : s.sameBut (s.doOpenRun body).1 Part.run := by
  unfold State.doOpenRun
  split
  · exact .refl _ _
  · exact s.openRun_same _

theorem State.priceRequest_same (s : State) (body : List Byte) (f : Nat → ValueEntry → ValueEntry) :
    s.sameBut (s.priceRequest body f).1 [.solver] := by
  unfold State.priceRequest
  split
  · exact .refl _ _
  · exact s.setSolver_same _

theorem State.doPriceRead_same (body : List Byte) (s : State) : s.sameBut (s.doPriceRead body).1 [] := by
  unfold State.doPriceRead
  split <;> exact .refl _ _

theorem State.doOrderSet_same (body : List Byte) (s : State) : s.sameBut (s.doOrderSet body).1 [.tally, .link] := by
  unfold State.doOrderSet
  split
  · exact .refl _ _
  · unfold State.setOrder
    dsimp only
    split
    · exact .ite ((s.setTally_same _).trans (State.notify_same _ _)) (s.setTally_same _).mono
    · split
      · exact (s.setTally_same _).mono
      · exact .refl _ _

theorem State.doOrderCancel_same (body : List Byte) (s : State) : s.sameBut (s.doOrderCancel body).1 [.tally] := by
  unfold State.doOrderCancel
  split
  · exact .refl _ _
  · split
    · exact s.setTally_same _
    · exact .refl _ _

theorem State.doBinSet_same (body : List Byte) (s : State) : s.sameBut (s.doBinSet body).1 [.sorter] := by
  unfold State.doBinSet
  split
  · exact .refl _ _
  · exact s.setSorter_same _
  · split
    · exact .refl _ _
    · exact s.setSorter_same _

theorem State.doBinClear_same (body : List Byte) (s : State) : s.sameBut (s.doBinClear body).1 [.sorter] := by
  unfold State.doBinClear
  split
  · exact .refl _ _
  · exact s.setSorter_same _
  · split
    · exact s.setSorter_same _
    · exact .refl _ _

theorem State.doLogCut_same (body : List Byte) (s : State) :
    s.sameBut (s.doLogCut body).1 [.tally, .link, .logs] := by
  unfold State.doLogCut
  split
  · exact .refl _ _
  · exact s.cutLog_same _ _ _

theorem State.doTallyRead_same (body : List Byte) (s : State) : s.sameBut (s.doTallyRead body).1 [] := by
  unfold State.doTallyRead
  split <;> exact .refl _ _

theorem State.doTallyClose_same (s : State) : s.sameBut s.doTallyClose.1 [.tally, .store] := by
  unfold State.doTallyClose
  split
  · exact .refl _ _
  · split
    · exact .refl _ _
    · exact s.closeTally_same

theorem State.doPeriodRead_same (body : List Byte) (s : State) : s.sameBut (s.doPeriodRead body).1 [] := by
  unfold State.doPeriodRead
  dsimp only
  split
  · exact .refl _ _
  · split
    · exact .refl _ _
    · split
      · exact .refl _ _
      · split <;> exact .refl _ _

theorem State.doWatchSet_same (body : List Byte) (s : State) : s.sameBut (s.doWatchSet body).1 [.watch] := by
  unfold State.doWatchSet
  split
  · exact .refl _ _
  · exact s.setWatch_same _

theorem State.doWatchClear_same (body : List Byte) (s : State) : s.sameBut (s.doWatchClear body).1 [.watch] := by
  unfold State.doWatchClear
  split
  · exact s.setWatch_same _
  · exact .refl _ _

theorem State.doCaptureRead_same (s : State) : s.sameBut s.doCaptureRead.1 [.watch] := by
  unfold State.doCaptureRead
  split
  · exact .refl _ _
  · exact s.setWatch_same _

theorem State.serve_same {owner : State → Answer} (h : ∀ s : State, s.sameBut (owner s).1 Part.owner) (s : State)
    (type tag : Byte) (ok : Bool) : s.sameBut (s.serve type tag ok owner) Part.owner :=
  .ite ((h s).trans (State.reply_same _ _ _ _ _)) (s.reply_same _ _ _ _).mono

theorem State.takeFrame_same {owner : State → Answer} (h : ∀ s : State, s.sameBut (owner s).1 Part.owner) (s : State)
    (type tag : Byte) (ok : Bool) : s.sameBut (s.takeFrame type tag ok owner) Part.owner :=
  .ite (s.setLink_same _).mono (.ite (State.serve_same h s _ _ _) (s.reply_same _ _ _ _).mono)

theorem State.whenPowered_same {f : State → State} {ps : List Part} (h : ∀ s : State, s.sameBut (f s) ps) (s : State) :
    s.sameBut (s.whenPowered f) ([.link, .stationA, .stationB] ++ ps) :=
  .ite ((h s).trans (State.takeUp_same _) (List.subset_append_right _ _) (List.subset_append_left _ _)) (.refl _ _)

theorem State.whenReady_same {f : State → State} {ps : List Part} (h : ∀ s : State, s.sameBut (f s) ps) (s : State) :
    s.sameBut (s.whenReady f) ([.link, .stationA, .stationB] ++ ps) :=
  .ite ((h s).trans (State.takeUp_same _) (List.subset_append_right _ _) (List.subset_append_left _ _)) (.refl _ _)

theorem State.request_same {owner : State → Answer} (h : ∀ s : State, s.sameBut (owner s).1 Part.owner) (s : State)
    (type tag : Byte) (ok : Bool) : s.sameBut (s.request type tag ok owner) Part.owner :=
  (State.whenPowered_same (ps := Part.owner)
    (fun s => (s.setLink_same _).trans (State.takeFrame_same h _ _ _ _)) s).mono

theorem State.unknownFrame_same (s : State) (type tag : Byte) : s.sameBut (s.unknownFrame type tag) Part.owner :=
  State.takeFrame_same (fun s => s.refuse_same _ _) s _ _ _

/-- Every request's owner keeps to the parts an owner can change. -/
theorem requestOf_same {type : Byte} {body : List Byte} {ok : Bool} {owner : State → Answer}
    (h : requestOf type body = some (ok, owner)) (s : State) : s.sameBut (owner s).1 Part.owner := by
  unfold requestOf at h
  split at h <;> cases h
  · exact s.acceptWith_same _ _
  · exact (s.doSetLine_same _).mono
  · exact (s.doSetBase_same _).mono
  · exact (s.doSaveSettings_same _).mono
  · exact (s.doOpenRun_same _).mono
  · exact s.doCloseRun_same.mono
  · exact (s.priceRequest_same _ _).mono
  · exact (s.priceRequest_same _ _).mono
  · exact (s.priceRequest_same _ _).mono
  · exact (s.doPriceRead_same _).mono
  · exact s.acceptWith_same _ _
  · exact (s.doOrderSet_same _).mono
  · exact (s.doOrderCancel_same _).mono
  · exact s.acceptWith_same _ _
  · exact (s.doBinSet_same _).mono
  · exact (s.doBinClear_same _).mono
  · exact s.acceptWith_same _ _
  · exact s.startLog_same.mono
  · exact (s.doLogCut_same _).mono
  · exact (s.doTallyRead_same _).mono
  · exact s.doTallyClose_same.mono
  · exact (s.doPeriodRead_same _).mono
  · exact (s.doWatchSet_same _).mono
  · exact (s.doWatchClear_same _).mono
  · exact s.doCaptureRead_same.mono
  · exact s.resumeLine_same.mono
  · exact s.clearLine_same.mono

theorem State.goodFrame_same (s : State) (type tag : Byte) (body : List Byte) :
    s.sameBut (s.goodFrame type tag body) Part.owner := by
  unfold State.goodFrame
  split
  · rename_i h
    exact State.takeFrame_same (requestOf_same h) s _ _ _
  · exact s.unknownFrame_same _ _

theorem State.framerEvent_same (s : State) (e : FramerEvent) : s.sameBut (s.framerEvent e) Part.owner := by
  cases e
  · exact .refl _ _
  · exact s.goodFrame_same _ _ _
  · exact (s.setLink_same _).mono
  · exact (s.setLink_same _).mono
  · exact (s.setLink_same _).mono

theorem State.linkCharacter_same (s : State) (c : RxChar) : s.sameBut (s.linkCharacter c) Part.owner :=
  ((s.setLink_same _).trans (State.framerEvent_same _ _) (rs := Part.owner)).trans (State.takeUp_same _)

theorem State.linkBreak_same (s : State) : s.sameBut s.linkBreak Part.owner :=
  (s.setLink_same _).trans (State.framerEvent_same _ _)

/-! ### Scanner links -/

theorem State.scannerEffect_same {f : State → State} {ps : List Part} (h : ∀ s : State, s.sameBut (f s) ps) (s : State) :
    s.sameBut (s.scannerEffect f) ps := .ite (h s) (.refl _ _)

/-- What a scanner record can change. -/
def Part.scanner : List Part := [.stationA, .stationB, .scan, .track, .tally, .link, .logs]

theorem State.scannerRecord_same (s : State) (link : ScannerLink) (content : List Byte) :
    s.sameBut (s.scannerRecord link content) Part.scanner := by
  cases link
  · exact (s.takeHeadFrame_same _ _).mono
  · exact (s.takeDefectFrame_same _).mono
  · exact (s.takeLogScan_same _).mono

theorem State.takeScanner_same {f : State → State} (h : ∀ s : State, s.sameBut (f s) Part.scanner) (s : State)
    (link : ScannerLink) : s.sameBut (s.takeScanner link f) Part.scanner :=
  (State.whenPowered_same (ps := Part.scanner)
    (fun s => (s.setLink_same _).trans (State.scannerEffect_same h _)) s).mono

theorem State.scannerEvent_same (s : State) (link : ScannerLink) (e : ScannerEvent) :
    s.sameBut (s.scannerEvent link e) Part.scanner := by
  cases e
  · exact .refl _ _
  · exact State.scannerEffect_same (fun s => s.scannerRecord_same _ _) s
  · exact (s.setLink_same _).mono

theorem State.scannerCharacter_same (link : ScannerLink) (s : State) (c : RxChar) :
    s.sameBut (State.scannerCharacter link s c) Part.scanner :=
  ((s.setLink_same _).trans (State.scannerEvent_same _ _ _) (rs := Part.scanner)).trans (State.takeUp_same _)

theorem State.scannerCharacters_same (s : State) (link : ScannerLink) (received : List RxChar) :
    s.sameBut (s.scannerCharacters link received) Part.scanner :=
  .foldl (State.scannerCharacter_same link) _ _

theorem State.scannerLineBreak_same (s : State) (link : ScannerLink) :
    s.sameBut (s.scannerLineBreak link) Part.scanner :=
  (s.setLink_same _).trans (State.scannerEvent_same _ _ _)

/-! ### The supply, RESET and STARTING -/

theorem State.restoreReclaim_same (s : State) : s.sameBut s.restoreReclaim [.store] :=
  (s.setStore_same _).trans (State.settleStore_same _)

/-- What a start or an end of the processor's time changes: everything but the queue of commands. -/
def Part.all : List Part :=
  [.power, .pins, .start, .chain, .logs, .scan, .track, .frames, .solver, .stationA, .stationB, .trimmer, .sorter,
   .tally, .store, .watch, .link]

theorem State.sameBut_all (h : t.pending = s.pending) : s.sameBut t Part.all := by
  intro p hp
  cases p <;> first | exact h | exact absurd (by decide) hp

theorem State.endRestore_same (s : State) :
    s.sameBut s.endRestore [.start, .chain, .scan, .frames, .stationA, .stationB, .trimmer, .sorter, .tally] := by
  unfold State.endRestore State.takeSettings
  intro p hp
  cases p <;> simp_all [State.agrees]

theorem State.settleRestore_same (s : State) :
    s.sameBut s.settleRestore [.start, .chain, .scan, .frames, .stationA, .stationB, .trimmer, .sorter, .tally] := by
  unfold State.settleRestore
  split
  · exact .ite (.refl _ _) s.endRestore_same
  · exact .refl _ _

theorem State.beginStarting_same (s : State) (c : ResetCause) (v : Bool) : s.sameBut (s.beginStarting c v) Part.all :=
  State.sameBut_all
    (((State.restoreReclaim_same _).mono (qs := Part.all) |>.trans (State.settleRestore_same _) (rs := Part.all)) .pending (by decide))

theorem State.powerUp_same (s : State) (v : Bool) : s.sameBut (s.powerUp v) Part.all := by
  unfold State.powerUp
  split
  · exact s.beginStarting_same _ _
  · exact .refl _ _

theorem State.powerDown_same (s : State) (cut : FlashCut) : s.sameBut (s.powerDown cut) Part.all := by
  unfold State.powerDown
  split
  · exact .refl _ _
  · exact State.sameBut_all rfl

theorem State.assertReset_same (s : State) (cut : FlashCut) : s.sameBut (s.assertReset cut) Part.all :=
  .ite (State.sameBut_all rfl) (s.setPins_same _).mono

theorem State.releaseReset_same (s : State) (v : Bool) : s.sameBut (s.releaseReset v) Part.all := by
  unfold State.releaseReset
  dsimp only
  split
  · exact (s.setPins_same _).trans (State.beginStarting_same _ _ _)
  · exact (s.setPins_same _).mono

theorem State.takeLevels_same (s : State) : s.sameBut s.takeLevels [.chain, .trimmer, .store] := by
  unfold State.takeLevels
  dsimp only
  refine State.sameBut.trans (ps := [.chain, .trimmer]) ?_ (State.setStore_same _ _)
  exact (s.setChain_same _).trans (.ite (State.setTrimmer_same _ _) (.refl _ _)) (qs := [.trimmer])

theorem State.endStarting_same (s : State) (c : ResetCause) :
    s.sameBut (s.endStarting c) [.power, .chain, .trimmer, .store, .link, .scan, .stationA, .stationB] := by
  unfold State.endStarting
  dsimp only
  refine State.sameBut.trans (ps := [.power, .chain, .trimmer, .store, .link, .scan, .stationA, .stationB]) ?_
    (State.takeUp_same _)
  refine State.sameBut.trans (ps := [.power, .chain, .trimmer, .store, .link, .scan, .stationA, .stationB]) ?_
    (State.refresh_same _ _)
  refine State.sameBut.trans (ps := [.power, .chain, .trimmer, .store, .link, .scan]) ?_ (State.refresh_same _ _)
  refine State.sameBut.trans (ps := [.power, .chain, .trimmer, .store, .link]) (qs := [.scan]) ?_
    (.ite (State.setScan_same _ _) (.refl _ _))
  refine State.sameBut.trans (ps := [.power, .chain, .trimmer, .store, .link]) (qs := [.link]) ?_
    (.ite (State.notify_same _ _) (.refl _ _))
  exact ((s.setPower_same _).trans (State.takeLevels_same _) (rs := [.power, .chain, .trimmer, .store])).trans
    (State.notify_same _ _)

theorem State.finishStarting_same (s : State) :
    s.sameBut s.finishStarting [.power, .chain, .trimmer, .store, .link, .scan, .stationA, .stationB] := by
  unfold State.finishStarting
  split
  · exact .ite (s.endStarting_same _) (.refl _ _)
  · exact .refl _ _

theorem State.warn_same (s : State) : s.sameBut s.warn [.store] :=
  .ite (.refl _ _) ((s.setStore_same _).trans (State.requestCheckpoint_same _))

end Sys2Proof.Machine
end

