-- ==== Sys2Proof/Laws/Senders.lean ====
section
/-! SUPPORT. What the two senders do at the end of an event, and what an event is in a processor that takes it. -/

namespace Sys2Proof.Machine

variable {s t : State}

theorem Link.takeUp_takeUp (l : Link) : l.takeUp.takeUp = l.takeUp := by
  rcases l with ⟨f, _ | ⟨r, rs⟩, _ | ⟨n, ns⟩, _ | x, _⟩ <;> rfl

theorem Station.takeUp_takeUp (x : Station) : x.takeUp.takeUp = x.takeUp := rfl

/-- The senders are settled exactly when each of the three is. -/
theorem State.settled_iff : s.Settled ↔
    s.link.takeUp = s.link ∧ s.stationA.takeUp = s.stationA ∧ s.stationB.takeUp = s.stationB := by
  constructor
  · intro h
    exact ⟨congrArg State.link h, congrArg State.stationA h, congrArg State.stationB h⟩
  · rintro ⟨h1, h2, h3⟩
    simp [State.Settled, State.takeUp, h1, h2, h3]

theorem State.settled_takeUp (s : State) : s.takeUp.Settled :=
  State.settled_iff.2 ⟨Link.takeUp_takeUp _, rfl, rfl⟩

/-- A change that leaves the senders alone leaves them settled. -/
theorem State.Settled.of_senders (h : s.Settled) (hl : t.link = s.link) (ha : t.stationA = s.stationA)
    (hb : t.stationB = s.stationB) : t.takeUp = t := by
  have := State.settled_iff.1 h
  exact State.settled_iff.2 ⟨hl ▸ this.1, ha ▸ this.2.1, hb ▸ this.2.2⟩

/-- The end of an event that changed the Line Link alone among the senders. -/
theorem State.Settled.takeUp_link (h : s.Settled) (ha : t.stationA = s.stationA) (hb : t.stationB = s.stationB) :
    t.takeUp = t.setLink t.link.takeUp := by
  have := State.settled_iff.1 h
  unfold State.takeUp
  simp only [ha, hb, this.2.1, this.2.2]
  rw [← ha, ← hb]
  rfl

@[simp] theorem State.takeUp_link (s : State) : s.takeUp.link = s.link.takeUp := rfl
@[simp] theorem State.takeUp_stationA (s : State) : s.takeUp.stationA = s.stationA.takeUp := rfl
@[simp] theorem State.takeUp_stationB (s : State) : s.takeUp.stationB = s.stationB.takeUp := rfl
@[simp] theorem State.takeUp_power (s : State) : s.takeUp.power = s.power := rfl
@[simp] theorem State.takeUp_pins (s : State) : s.takeUp.pins = s.pins := rfl
@[simp] theorem State.takeUp_start (s : State) : s.takeUp.start = s.start := rfl
@[simp] theorem State.takeUp_chain (s : State) : s.takeUp.chain = s.chain := rfl
@[simp] theorem State.takeUp_logs (s : State) : s.takeUp.logs = s.logs := rfl
@[simp] theorem State.takeUp_scan (s : State) : s.takeUp.scan = s.scan := rfl
@[simp] theorem State.takeUp_track (s : State) : s.takeUp.track = s.track := rfl
@[simp] theorem State.takeUp_frames (s : State) : s.takeUp.frames = s.frames := rfl
@[simp] theorem State.takeUp_solver (s : State) : s.takeUp.solver = s.solver := rfl
@[simp] theorem State.takeUp_trimmer (s : State) : s.takeUp.trimmer = s.trimmer := rfl
@[simp] theorem State.takeUp_sorter (s : State) : s.takeUp.sorter = s.sorter := rfl
@[simp] theorem State.takeUp_tally (s : State) : s.takeUp.tally = s.tally := rfl
@[simp] theorem State.takeUp_store (s : State) : s.takeUp.store = s.store := rfl
@[simp] theorem State.takeUp_watch (s : State) : s.takeUp.watch = s.watch := rfl
@[simp] theorem State.takeUp_pending (s : State) : s.takeUp.pending = s.pending := rfl

/-! ### Events taken -/

theorem State.whenReady_ready (h : s.power = .ready) (f : State → State) : s.whenReady f = (f s).takeUp := if_pos h

theorem State.whenReady_notReady (h : s.power ≠ .ready) (f : State → State) : s.whenReady f = s := if_neg h

theorem State.powered_of_ready (h : s.power = .ready) : s.powered = true := by simp [State.powered, h]

theorem State.whenPowered_powered (h : s.powered = true) (f : State → State) : s.whenPowered f = (f s).takeUp :=
  if_pos h

theorem State.whenPowered_ready (h : s.power = .ready) (f : State → State) : s.whenPowered f = (f s).takeUp :=
  State.whenPowered_powered (State.powered_of_ready h) f

/-! ### Requests answered -/

@[simp] theorem Link.frameIn_replies (l : Link) : l.frameIn.replies = l.replies := rfl
@[simp] theorem Link.frameIn_notices (l : Link) : l.frameIn.notices = l.notices := rfl
@[simp] theorem Link.frameIn_sending (l : Link) : l.frameIn.sending = l.sending := rfl

/-- A request with an allowed body at a processor that can answer: the owner's effect, the reply, the senders. -/
theorem State.request_answered (h : s.power = .ready) (hr : s.link.replies.length < Config.replyCapacity)
    (type tag : Byte) (owner : State → Answer) :
    s.request type tag true owner =
      ((owner (s.setLink s.link.frameIn)).1.reply type tag (owner (s.setLink s.link.frameIn)).2.1
        (owner (s.setLink s.link.frameIn)).2.2).takeUp := by
  unfold State.request
  rw [State.whenPowered_ready h]
  unfold State.takeFrame
  rw [if_neg (by simpa using hr), if_pos (by simpa using h)]
  rfl

/-- The same for an owner that leaves the senders alone: the Line Link gains the reply. -/
theorem State.request_answered_quiet (h : s.CanAnswer) (type tag : Byte) (owner : State → Answer)
    (hl : (owner (s.setLink s.link.frameIn)).1.link = s.link.frameIn)
    (ha : (owner (s.setLink s.link.frameIn)).1.stationA = s.stationA)
    (hb : (owner (s.setLink s.link.frameIn)).1.stationB = s.stationB) :
    s.request type tag true owner =
      (owner (s.setLink s.link.frameIn)).1.setLink
        (s.link.answered type tag (owner (s.setLink s.link.frameIn)).2.1 (owner (s.setLink s.link.frameIn)).2.2) := by
  rw [State.request_answered h.1.1 h.2, State.Settled.takeUp_link h.1.2 (by simpa [State.reply] using ha)
    (by simpa [State.reply] using hb)]
  simp [State.reply, hl, Link.answered]

end Sys2Proof.Machine
end

