-- ==== Sys2Proof/Laws/Store.lean ====
section
/-! SUPPORT. How the Tally Store goes on: the reclaim, the deferred checkpoint and the due relocation, in the words the
statements use. -/

namespace Sys2Proof.Machine

/-! ### The reclaim's next block (R165) -/

/-- The reclaim takes the lowest reclaimable block. -/
theorem Store.nextReclaim_lowest (x : Store) (i : Nat) : x.LowestReclaimable i (x.nextReclaim i) := by
  unfold Store.nextReclaim
  cases h : (x.blocks.drop i).findIdx? (reclaimable x.blocks) with
  | none =>
    rw [List.findIdx?_eq_none_iff] at h
    exact fun k b hk hb => h b (List.mem_drop_iff_getElem.2
      ⟨k - i, by have := (List.getElem?_eq_some_iff.1 hb).1; omega, by
        have := (List.getElem?_eq_some_iff.1 hb).2
        simpa [Nat.add_sub_cancel' hk] using this⟩)
  | some m =>
    rw [List.findIdx?_eq_some_iff_getElem] at h
    obtain ⟨hm, hr, hb⟩ := h
    simp only [Option.map_some]
    refine ⟨Nat.le_add_left _ _, ⟨(x.blocks.drop i)[m], ?_, hr⟩, fun k b hk hkm hkb => ?_⟩
    · simp [Nat.add_comm]
    · have hlt : k - i < m := by have : k < m + i := hkm; omega
      have := hb (k - i) hlt
      obtain ⟨hl, e⟩ := List.getElem?_eq_some_iff.1 hkb
      simp only [List.getElem_drop, Nat.add_sub_cancel' hk, e] at this
      simpa using this

/-- There is one such block. -/
theorem Store.LowestReclaimable.eq {x : Store} {i : Nat} {a b : Option Nat} (ha : x.LowestReclaimable i a)
    (hb : x.LowestReclaimable i b) : a = b := by
  cases a with
  | none =>
    cases b with
    | none => rfl
    | some j =>
      obtain ⟨hj, ⟨k, hk, hr⟩, -⟩ := hb
      simp [ha j k hj hk] at hr
  | some m =>
    obtain ⟨hm, ⟨y, hy, hry⟩, hlm⟩ := ha
    cases b with
    | none => simp [hb m y hm hy] at hry
    | some j =>
      obtain ⟨hj, ⟨z, hz, hrz⟩, hlj⟩ := hb
      rcases Nat.lt_trichotomy m j with h | h | h
      · simp [hlj m y hm h hy] at hry
      · rw [h]
      · simp [hlm j z hj h hz] at hrz

/-! ### The relocation (R166) -/

/-- The test of the relocation. -/
theorem Store.relocationWanted_iff (x : Store) : x.relocationWanted = true ↔ x.WantsRelocation := by
  have high : ∀ (l : List Nat) (m n : Nat), n < l.foldl max m ↔ n < m ∨ ∃ y ∈ l, n < y := by
    intro l
    induction l with
    | nil => simp
    | cons a l ih => intro m n; simp [ih, or_assoc]
  unfold Store.relocationWanted Store.staticBlock
  cases h : x.blocks.findIdx? fun b => b.state == .static with
  | none =>
    rw [List.findIdx?_eq_none_iff] at h
    simp only [Bool.false_eq_true, false_iff]
    rintro ⟨i, b, y, hb, hs, -⟩
    simpa [hs] using h b (List.mem_of_getElem? hb)
  | some i =>
    rw [List.findIdx?_eq_some_iff_getElem] at h
    obtain ⟨hi, hs, hl⟩ := h
    have he : x.eraseOf i = x.blocks[i].eraseCount := by simp [Store.eraseOf, hi]
    simp only [Config.wearLag, Store.highestErase, decide_eq_true_eq, he, Nat.lt_sub_iff_add_lt, high]
    constructor
    · rintro (h | h)
      · omega
      · obtain ⟨n, hn, hlt⟩ := h
        obtain ⟨y, hy, rfl⟩ := List.mem_map.1 hn
        refine ⟨i, x.blocks[i], y, by simp, by simpa using hs, fun k z hk hz e => ?_, hy, by omega⟩
        obtain ⟨hkl, rfl⟩ := List.getElem?_eq_some_iff.1 hz
        exact hl k hk (by simp [e])
    · rintro ⟨k, b, y, hb, hbs, hlow, hy, hlt⟩
      obtain ⟨hk, rfl⟩ := List.getElem?_eq_some_iff.1 hb
      have : k = i := by
        rcases Nat.lt_trichotomy k i with h | h | h
        · exact absurd (by simp [hbs]) (hl k h)
        · exact h
        · exact absurd (by simpa using hs) (hlow i x.blocks[i] h (by simp))
      subst this
      exact .inr ⟨_, List.mem_map.2 ⟨y, hy, rfl⟩, by omega⟩

/-! ### After a reclaim (R162) -/

/-- A checkpoint asked for in an idle store (R163): joined, deferred, dropped with a reclaim tried, or queued. -/
theorem State.requestCheckpoint_idle {s : State} (hf : s.store.inFlight = none) (he : s.store.erasing = none)
    (hq : s.store.queue.length < 4) :
    (.checkpoint ∈ s.store.queue → s.requestCheckpoint = s) ∧
      (.checkpoint ∉ s.store.queue → s.store.conditionFull = true → s.requestCheckpoint = s.setStore { s.store with
        skipped := min (s.store.skipped + 1) 65535, erasing := s.store.nextReclaim 0 }) ∧
      (.checkpoint ∉ s.store.queue → s.store.conditionFull = false → s.requestCheckpoint =
        (s.setStore { s.store with queue := s.store.queue ++ [.checkpoint] }).beginStoreOp) := by
  have wait : s.store.waiting = s.store.queue := by simp [Store.waiting, hf]
  have full : s.store.queueFull = false := decide_eq_false (Nat.not_le.2 hq)
  unfold State.requestCheckpoint
  simp only [wait, full, List.any_eq_true, beq_iff_eq, exists_eq_right]
  refine ⟨fun h => if_pos h, fun h hc => ?_, fun h hc => ?_⟩
  · rw [if_neg h, if_neg (by simp), if_pos hc]
    simp [Store.startReclaim, he, satInc, Config.countMax, Store.nextReclaim]
  · rw [if_neg h, if_neg (by simp), if_neg (by simp [hc])]
    rfl

/-- What follows a reclaim of an idle store. -/
theorem State.afterReclaim_served {s : State} (hf : s.store.inFlight = none) (he : s.store.erasing = none) :
    s.ServedAfterReclaim s.afterReclaim := by
  have full (x : Store) : x.queueFull = false ↔ x.queue.length < 4 := decide_eq_false_iff_not.trans Nat.not_le
  have request := fun hq => State.requestCheckpoint_idle (s := s.setStore { s.store with deferred := false }) hf he hq
  have allowed (y : Store) : (y.relocationDue && !y.queueFull && y.relocationWanted && !y.relocateQueued && y.anyFree) = true ↔
      y.relocationDue = true ∧ y.queue.length < 4 ∧ .relocate ∉ y.queue ∧ y.WantsRelocation ∧
        ∃ b ∈ y.blocks, b.state = .free := by
    simp only [Bool.and_eq_true, Bool.not_eq_true', full, y.relocationWanted_iff, Store.relocateQueued, Store.anyFree,
      List.any_eq_true, beq_iff_eq, List.any_eq_false]
    constructor
    · rintro ⟨⟨⟨⟨a, b⟩, c⟩, d⟩, e⟩
      exact ⟨a, b, fun h => d _ h rfl, c, e⟩
    · rintro ⟨a, b, d, c, e⟩
      exact ⟨⟨⟨⟨a, b⟩, c⟩, fun x hx e => d (e ▸ hx)⟩, e⟩
  have last : s.afterReclaim = (fun u : State =>
      (if u.store.relocationDue && !u.store.queueFull && u.store.relocationWanted && !u.store.relocateQueued &&
          u.store.anyFree then
        u.setStore { u.store with queue := u.store.queue ++ [.relocate], relocationDue := false }
      else u).beginStoreOp) (if s.store.deferred && !s.store.queueFull then
        (s.setStore { s.store with deferred := false }).requestCheckpoint else s) := rfl
  refine ⟨if s.store.deferred && !s.store.queueFull then
      (s.setStore { s.store with deferred := false }).requestCheckpoint else s, ?_, ?_, ?_, ?_, ?_, ?_⟩
  · intro h
    rw [if_neg]
    simpa [← full] using h
  · intro h hc
    rw [if_pos (by simpa [← full] using h), (request h.2).1 hc]
  · intro h hc hn
    rw [if_pos (by simpa [← full] using h), (request h.2).2.1 hc hn]
    exact ⟨_, s.store.nextReclaim_lowest 0, rfl⟩
  · intro h hc hn
    rw [if_pos (by simpa [← full] using h), (request h.2).2.2 hc hn]
    rfl
  · intro h
    rw [last]
    exact congrArg State.beginStoreOp (if_pos ((allowed _).2 h))
  · intro h
    rw [last]
    exact congrArg State.beginStoreOp (if_neg fun e => h ((allowed _).1 e))

/-- How a store with no erase goes on (R162, R165). -/
theorem State.reclaim_goesOn {s : State} (i : Nat) (he : s.store.erasing = none) :
    s.GoesOn i (s.setStore (s.store.startReclaim i)).settleStore := by
  have same : s.store.nextReclaim i = none → s.setStore (s.store.startReclaim i) = s := by
    intro hn
    have : s.store.startReclaim i = s.store := by
      rw [Store.startReclaim, if_neg (by simp [he]), hn, ← he]
    rw [this]
    rfl
  refine ⟨_, s.store.nextReclaim_lowest i, fun j hj => ?_, fun hn hf => ?_, fun hn hf => ?_⟩
  · simp [State.settleStore, Store.startReclaim, he, hj]
  · rw [same hn]
    simp [State.settleStore, hf]
  · rw [same hn]
    simpa [State.settleStore, he, hf] using s.afterReclaim_served hf he

end Sys2Proof.Machine
end

