-- ==== Sys2Proof/WellFormed.lean ====
section
/-! DEFINITION. Well-formed commands: what the row of each command admits. A request's body is at most 1024 bytes
(section 12.2), a key's fields lie in the ranges of R113, a record or frame that a row says is discarded is one that its
receiver discards. -/

namespace Sys2Proof

open Sys2Proof.Machine

/-- The body of a frame that can come whole (section 12.2). -/
def bodyFits (body : List Byte) : Bool := decide (body.length ≤ Config.bodyMax)

/-- A request type (section 12.4). -/
def isRequestType (type : Byte) : Bool := decide (1 ≤ type.toNat ∧ type.toNat ≤ 0x1B)

/-- Characters that end with their only CR. -/
def oneRecord (received : List RxChar) : Bool :=
  received.getLast? == some (.byte 0x0D#8) && !(received.dropLast.contains (.byte 0x0D#8))

/-- A station record that is answered NO SYNTAX (R112, R113): it is not empty, and has a discard mark or fails a parse
check. -/
def syntaxFault (received : List RxChar) : Bool :=
  let x := received.dropLast.foldl (fun x c => (x.receive c).1) (Station.initial .reload)
  oneRecord received && (x.discard || (!x.buffer.isEmpty && (parseRecord x.buffer).isNone))

/-- The events that characters bring about at a framer that starts in HUNT. -/
def framerEvents (received : List RxChar) : List FramerEvent :=
  (received.foldl (fun (r : Framer × List FramerEvent) c => ((r.1.receive c).1, r.2 ++ [(r.1.receive c).2]))
    (Framer.hunt, [])).2

/-- A frame is discarded. -/
def FramerEvent.isDiscard : FramerEvent → Bool
  | .checkFail => true
  | .badLength => true
  | .broken => true
  | _ => false

/-- A frame has come whole. -/
def FramerEvent.isGood : FramerEvent → Bool
  | .good .. => true
  | _ => false

/-- The events that characters bring about at a scanner receiver that hunts at first. -/
def scannerEvents (link : ScannerLink) (received : List RxChar) : List ScannerEvent :=
  (received.foldl (fun (r : Option (List Byte) × List ScannerEvent) c =>
    ((scannerReceive link r.1 c).1, r.2 ++ [(scannerReceive link r.1 c).2])) (none, [])).2

/-- A record has come whole. -/
def ScannerEvent.isRecord : ScannerEvent → Bool
  | .record _ => true
  | _ => false

/-- The command is one its row admits. -/
def Instr.wellFormed : Instr → Bool
  | .holdExpiry code => decide (1 ≤ code ∧ code ≤ 255)
  | .stragglerExpiry logId => decide (1 ≤ logId ∧ logId ≤ 65535)
  | .logScanRecord diameters => decide (diameters.length ≤ 255)
  | .defectFrame frame => decide (frame.entries.length = 22)
  | .scannerLinkBreak link received => !((scannerEvents link received).any ScannerEvent.isRecord)
  | .gradeMarkKey _ g => (Key.gradeMark g).inRange
  | .trimMarkKey _ p q => (Key.trimMark p q).inRange
  | .holdKey _ g n => (Key.hold g n).inRange
  | .stationSyntaxRecord _ received => syntaxFault received
  | .status _ body _ => bodyFits body
  | .setLine _ body => bodyFits body
  | .setBaseRules _ body => bodyFits body
  | .saveSettings _ body => bodyFits body
  | .openRun _ body => bodyFits body
  | .closeRun _ body => bodyFits body
  | .priceSet _ body => bodyFits body
  | .priceWithdraw _ body => bodyFits body
  | .priceRestore _ body => bodyFits body
  | .priceRead _ body => bodyFits body
  | .frameRead _ body => bodyFits body
  | .orderSet _ body => bodyFits body
  | .orderCancel _ body => bodyFits body
  | .orderRead _ body => bodyFits body
  | .binSet _ body => bodyFits body
  | .binClear _ body => bodyFits body
  | .binRead _ body => bodyFits body
  | .logStart _ body => bodyFits body
  | .logCut _ body => bodyFits body
  | .tallyRead _ body => bodyFits body
  | .tallyClose _ body => bodyFits body
  | .periodRead _ body => bodyFits body
  | .watchSet _ body => bodyFits body
  | .watchClear _ body => bodyFits body
  | .captureRead _ body => bodyFits body
  | .lineResume _ body => bodyFits body
  | .clearLine _ body => bodyFits body
  | .unknownType type _ body => !isRequestType type && bodyFits body
  | .frameDiscarded received =>
    ((framerEvents received).getLast?.elim false FramerEvent.isDiscard) &&
      !((framerEvents received).any FramerEvent.isGood)
  | .lineLinkBreak received => !((framerEvents received).any FramerEvent.isGood)
  | .scannerRecordDiscarded link received =>
    (scannerEvents link received).getLast? == some .fail &&
      !((scannerEvents link received).any ScannerEvent.isRecord)
  | .encoderPulse _ _ _ => true
  | .syncEyePulse _ => true
  | .lineStop => true
  | .lineStopRelease => true
  | .powerFailWarning => true
  | .powerFailRelease => true
  | .powerOn _ => true
  | .resetAssertion _ => true
  | .resetRelease _ => true
  | .startingEnd => true
  | .headFrame _ _ => true
  | .strobeEnd => true
  | .strobeGapEnd => true
  | .solveComplete => true
  | .ackRise => true
  | .ackFall => true
  | .pulseEnd => true
  | .pulseGapEnd => true
  | .chipKey _ => true
  | .releaseKey _ => true
  | .selectOlderKey _ => true
  | .cancelHoldKey _ => true
  | .refreshKey _ => true
  | .stationLineSent _ => true
  | .frameSent => true
  | .checkpointWriteDone => true
  | .periodWriteDone => true
  | .settingsWriteDone => true
  | .relocateStaticDone => true
  | .reclaimEraseDone _ => true
  | .powerLoss _ => true

end Sys2Proof
end

