-- ==== Sys2Proof/Tests/Slice0.lean ====
section
/-! SUPPORT. Tests of the model: ill-formed commands that `Instr.wellFormed` refuses, one event for each command with the
outcome the spec's rules and worked cases give, and for each statement with hypotheses a state that meets them. -/

namespace Sys2Proof.Tests

open Sys2Proof Sys2Proof.Machine

set_option Elab.async false

/-! ### States the tests start from -/

/-- The processor after STARTING, with a flash of four blocks. -/
def ready : State :=
  { State.reset with power := .ready, store := { State.reset.store with blocks := List.replicate 4 Block.blank } }

/-- The state after a command. -/
def after (c : Instr) (s : State) : State :=
  match exec c s with
  | .next t => t
  | _ => s

/-- A boundary's samples. -/
def sample (presence : Bool) : BoundarySample := 
  { presence := presence, chainRun := true, order := .trackingFirst, expiriesFirst := false }

/-- A chain at lug 1000, aligned (section 1.9). -/
def chainAt (phase : Nat) (mark : Bool) : State :=
  ready.setChain { ready.chain with lug := 1000, phase := phase, aligned := true, boundaryMark := mark }

/-- The run of the worked case of section 6.10. -/
def workedRun : Run := { number := 12, species := 3, thickness := 2, classes := [(4, 112), (6, 176), (8, 232)] }

/-- A processor with that run open and an empty RUN frame. -/
def running : State :=
  (ready.setSolver { ready.solver with run := some workedRun }).setFrames { ready.frames with run := some [] }

/-- The product key of the worked case: 3, 2, grade 2, 10 ft, class 2. -/
def workedKey : ProductKey := { species := 3, thickness := 2, grade := 2, length := 10, widthClass := 2 }

/-- Its two bytes (R190). -/
def keyBytes : List Byte := [0x35, 0x21]

/-- The piece of the worked case. -/
def workedPiece : Piece := { p := 1, q := 6, key := workedKey, width := 6 }

/-- Its decision: saws 1, 6, 7 and 8. -/
def workedDecision : Decision :=
  { piece := some workedPiece, score := 62400, mask := 0x1C2, flags := DecisionFlags.clear, reason := .first }

/-- A segment of the worked case. -/
def woodSegment (coverage : Coverage) (thickness width : Nat) : Segment :=
  { coverage := coverage, thickness := thickness, width := width, wane := 0, defect := some 0, split := some false,
    grade := none }

/-- The segments of the worked case; with BASE as built in, thickness 54 meets grade 2, 52 grade 3 and 48 grade 4. -/
def workedSegments : List Segment :=
  List.replicate 2 (woodSegment .full 48 180) ++ List.replicate 5 (woodSegment .full 54 180) ++
    [woodSegment .full 52 180] ++ List.replicate 4 (woodSegment .full 54 180) ++
    List.replicate 4 (woodSegment .full 54 150) ++ [woodSegment .part 54 0] ++
    List.replicate 5 (woodSegment .none 0 0)

/-- A board of that wood in a state. -/
def boardIn (lug : Lug) (state : BoardState) : Board :=
  { Board.opened lug (some 12) with
    state := state, segments := workedSegments, extent := some (0, 16), windowA := .isOpen,
    decision := if state = .assembling ∨ state = .solving then none else some workedDecision }

/-- A processor with the run of the worked case and boards in the table. -/
def holding (boards : List Board) : State := running.setTrack { running.track with boards := boards }

/-- The same with a board selected at Station A. -/
def selecting (boards : List Board) (lug : Lug) : State :=
  (holding boards).setStationA { ready.stationA with selection := some lug }

/-- A log of the two-foot worked case of section 2.3.1. -/
def logIn (id : Nat) (state : LogState) (seen pending : Nat) : Log :=
  { Log.created id (scaleLog [120, 116, 110]) false false with
    state := state, seen := seen, pending := pending, doneCount := seen - pending, pieces := seen - pending }

/-- A processor with open logs. -/
def sawing (logs : List Log) : State := ready.setLogs { ready.logs with queue := logs }

/-- A log whose straggler timer has expired. -/
def expiredLog (id : Nat) (state : LogState) (seen pending : Nat) : Log :=
  { logIn id state seen pending with
    announced := some 6,
    timer := { reload := 40, remaining := 0, running := false, retrigger := .ignore, expiryPending := true } }

/-- A HOLD frame. -/
def holdOf (owner : StationId) (ceiling code : Nat) (expired : Bool) : Hold :=
  { owner := owner, ceiling := ceiling, code := code,
    timer := { reload := 5, remaining := if expired then 0 else 5, running := !expired, retrigger := .reload,
               expiryPending := expired } }

/-- A processor with HOLD frames. -/
def holdingFrames (holds : List Hold) : State := running.setFrames { running.frames with holds := holds, nextCode := 4 }

/-- A decision of lug 7001 on the trimmer's lines. -/
def onTheLines (mode : Handshake) : State :=
  (holding [boardIn 7001 .committed]).setTrimmer { ready.trimmer with
    mode := mode, presented := some { lug := 7001, mask := 0x1C2, again := false }, onLines := true, phase := .on,
    lines := { saws := 0x1C2, tag := 25, dv := true } }

/-- The port after that, with the next decision waiting. -/
def recovering (mode : Handshake) : State :=
  (holding [boardIn 7001 .committed]).setTrimmer { ready.trimmer with
    mode := mode, phase := .recovering, presented := some { lug := 7001, mask := 0x1C2, again := true } }

/-- A processor with a store queue and its oldest operation in flight. -/
def storing (queue : List StoreOp) (flight : Option InFlight) : State :=
  ready.setStore { ready.store with queue := queue, inFlight := flight, nextSeq := 8 }

/-- The write of a body to block 1 under sequence number 7. -/
def writing (body : StoreBody) (newStatic : Bool) : InFlight :=
  { write := some { block := 1, record := .written body 7, newStatic := newStatic } }

/-- A period record with nothing counted. -/
def emptyPeriod : PeriodRecord := { period := 1, lug := 0, body := LiveTally.empty.body }

/-- A checkpoint of an empty tally. -/
def emptyCheckpoint : Checkpoint := { period := 1, lug := 0, live := LiveTally.empty, orders := [] }

/-- An open order of the worked key: target 500, filled 420 (section 9.8). -/
def openOrder : Order :=
  { key := workedKey, target := 500, filled := { value := 420, saturated := false }, state := .isOpen,
    action := .discount 80 }

/-- A processor with that order. -/
def ordering (orders : List Order) : State := ready.setTally { ready.tally with orders := orders }

/-- The replies' codes, oldest first. -/
def codes (s : State) : List ReplyCode := s.link.replies.map Reply.code

/-! ### Commands that are not well formed -/

theorem test_wellFormed_hold_code :
    (Instr.holdExpiry 0).wellFormed = false ∧ (Instr.holdExpiry 256).wellFormed = false ∧
      (Instr.holdExpiry 255).wellFormed = true := by decide

theorem test_wellFormed_log_id :
    (Instr.stragglerExpiry 0).wellFormed = false ∧ (Instr.stragglerExpiry 65536).wellFormed = false ∧
      (Instr.stragglerExpiry 65535).wellFormed = true := by decide

theorem test_wellFormed_log_scan_count :
    (Instr.logScanRecord (List.replicate 256 100)).wellFormed = false ∧
      (Instr.logScanRecord (List.replicate 255 100)).wellFormed = true := by decide +kernel

theorem test_wellFormed_defect_entries :
    (Instr.defectFrame { tag := 0, head := 0x0B, context := 0, status := 0, entries := List.replicate 21 0 }).wellFormed
      = false := by decide

theorem test_wellFormed_key_fields :
    ∀ c ∈ [Instr.gradeMarkKey .a 0, .gradeMarkKey .a 6, .trimMarkKey .a 0 2, .trimMarkKey .b 8 11, .trimMarkKey .a 5 5,
      .holdKey .b 0 5, .holdKey .a 6 5, .holdKey .a 1 100000], c.wellFormed = false := by decide

/-- A record that is empty, one that holds a good key, and two records. -/
theorem test_wellFormed_syntax_record :
    ∀ l ∈ [[RxChar.byte 0x0D], [.byte 0x43, .byte 0x0D], [.byte 0x5A, .byte 0x0D, .byte 0x5A, .byte 0x0D], [.byte 0x5A]],
      (Instr.stationSyntaxRecord .a l).wellFormed = false := by decide

theorem test_wellFormed_syntax_record_bad : (Instr.stationSyntaxRecord .a [.byte 0x5A, .byte 0x0D]).wellFormed = true := by
  decide

/-- A body of 1025 bytes. -/
def longBody : List Byte := List.replicate 1025 0

theorem test_wellFormed_bodies :
    ∀ c ∈ [Instr.status 0 longBody true, .setLine 0 longBody, .setBaseRules 0 longBody, .saveSettings 0 longBody,
      .openRun 0 longBody, .closeRun 0 longBody, .priceSet 0 longBody, .priceWithdraw 0 longBody, .priceRestore 0 longBody,
      .priceRead 0 longBody, .frameRead 0 longBody, .orderSet 0 longBody, .orderCancel 0 longBody, .orderRead 0 longBody,
      .binSet 0 longBody, .binClear 0 longBody, .binRead 0 longBody, .logStart 0 longBody, .logCut 0 longBody,
      .tallyRead 0 longBody, .tallyClose 0 longBody, .periodRead 0 longBody, .watchSet 0 longBody, .watchClear 0 longBody,
      .captureRead 0 longBody, .lineResume 0 longBody, .clearLine 0 longBody, .unknownType 0x40 0 longBody],
      c.wellFormed = false := by decide +kernel

theorem test_wellFormed_unknown_type :
    (Instr.unknownType 0x1B 0 []).wellFormed = false ∧ (Instr.unknownType 0x1C 0 []).wellFormed = true := by decide

/-- The good frame of section 12.9.1, whole: STATUS with tag 5Ah. -/
def statusFrame : List RxChar := (wireFrame 0x01 0x5A []).map .byte

/-- A whole good frame is not discarded, nor does a break come with one; a frame without its end is not discarded yet. -/
theorem test_wellFormed_frames :
    (Instr.frameDiscarded statusFrame).wellFormed = false ∧ (Instr.frameDiscarded []).wellFormed = false ∧
      (Instr.frameDiscarded [.byte 0x7E]).wellFormed = false ∧ (Instr.lineLinkBreak statusFrame).wellFormed = false ∧
      (Instr.frameDiscarded [.byte 0x7E, .framingError]).wellFormed = true := by decide +kernel

/-- A log scan record with one station, and its check byte. -/
def shortScan : List RxChar := [.byte 0xA5, .byte 1, .byte 0, .byte 120, .byte (sumCheck [1, 0, 120])]

theorem test_wellFormed_scanner_records :
    (Instr.scannerRecordDiscarded .logScan shortScan).wellFormed = false ∧
      (Instr.scannerRecordDiscarded .logScan []).wellFormed = false ∧
      (Instr.scannerLinkBreak .logScan shortScan).wellFormed = false ∧
      (Instr.scannerRecordDiscarded .logScan (shortScan.dropLast ++ [.framingError])).wellFormed = true := by decide

/-! ### Chapter 1: the worked sequence of section 1.9 and the line inputs -/

/-- Step 4 of section 1.9: the phase reaches 512 and the boundary comes from the encoder. -/
theorem test_encoderPulse_boundary :
    (after (.encoderPulse false true (sample false)) (chainAt 511 false)).chain =
      { (chainAt 0 true).chain with lug := 1001 } := by decide +kernel

/-- Both inputs of the pair change together: an encoder error, and no pulse (R1). -/
theorem test_encoderPulse_error :
    (after (.encoderPulse true true (sample false)) (chainAt 511 false)).chain =
      { (chainAt 511 false).chain with encoderErrors := 1 } := by decide +kernel

/-- Step 11 of section 1.9: an eye 100 pulses late is a slip, with its notice. -/
theorem test_syncEyePulse_slip :
    let t := after (.syncEyePulse (sample false)) (chainAt 100 true)
    t.chain = { (chainAt 0 false).chain with slips := 1 } ∧ t.link.notices = [.fault (.lugSlip 1000 100 false)] := by
  decide +kernel

/-- Step 8 of section 1.9: an eye 17 pulses early takes the boundary, silently. -/
theorem test_syncEyePulse_early :
    let t := after (.syncEyePulse (sample true)) (chainAt 495 false)
    t.chain = { (chainAt 0 false).chain with lug := 1001 } ∧ t.link.notices = [] ∧ t.track.boards.map Board.lug = [1001] := by
  decide +kernel

theorem test_lineStop :
    let t := after .lineStop (onTheLines .interlocked)
    t.chain.line = .stopped ∧ t.link.notices = [.lineStopped 0] ∧ t.trimmer.lines = TrimLines.inactive ∧
      t.store.queue = [.checkpoint] := by decide +kernel

/-- A release leaves the line STOPPED (R12). -/
theorem test_lineStopRelease :
    let t := after .lineStopRelease (after .lineStop ready)
    t.chain.line = .stopped ∧ t.pins.lineStop = false := by decide +kernel

/-- The table of R13: the input still asserted. -/
theorem test_lineResume_stopped : codes (after (.lineResume 1 []) (after .lineStop ready)) = [.stopped] := by decide +kernel

theorem test_lineResume_running :
    let t := after (.lineResume 1 []) (after .lineStopRelease (after .lineStop (onTheLines .interlocked)))
    codes t = [.accepted] ∧ t.chain.line = .running ∧ t.trimmer.lines = { saws := 0x1C2, tag := 25, dv := true } := by
  decide +kernel

/-- SET LINE with the tolerance field 0: floor(1024/16) = 64 (R10). -/
theorem test_setLine :
    (after (.setLine 1 [4, 0, 0, 0, 6, 9, 3, 14, 18, 24]) ready).chain.config =
      { LineConfig.default with pulses := 1024, tolerance := 64 } := by decide +kernel

theorem test_setLine_busy :
    codes (after (.setLine 1 [4, 0, 0, 0, 6, 9, 3, 14, 18, 24]) (holding [boardIn 5 .solved])) = [.busy] := by decide +kernel

/-! ### Chapter 2: logs -/

/-- Section 2.3.1: the two-foot log. -/
theorem test_logScanRecord :
    (after (.logScanRecord [120, 116, 110]) ready).logs.queue.map Log.figures =
      [{ length := 2, sed := 110, led := 120, volume := 146, taper := 50, diameterClass := 3 }] := by decide +kernel

/-- Section 2.2.1: the cleanup of a record with gaps, and its figures in section 2.3.1. -/
theorem test_logScanRecord_filled :
    (after (.logScanRecord [0, 148, 0, 0, 131, 126]) ready).logs.queue.map Log.figures =
      [{ length := 5, sed := 126, led := 148, volume := 527, taper := 44, diameterClass := 4 }] := by decide +kernel

theorem test_logStart :
    (after (.logStart 1 []) (sawing [logIn 41 .scanned 0 0, logIn 42 .scanned 0 0])).logs.queue.map Log.state =
      [.sawing, .scanned] := by decide +kernel

/-- Section 2.7.1: log 41 with four boards seen and a count of 6 becomes CUT, its timer triggered at 40. -/
theorem test_logCut :
    (after (.logCut 1 [0, 41, 6, 0]) (sawing [logIn 41 .sawing 4 4])).logs.queue.map
      (fun l => (l.state, l.announced, l.timer.remaining)) = [(.cut, some 6, 40)] := by decide +kernel

/-- Section 2.7.1: log 42 with three boards seen and a count of 2. -/
theorem test_logCut_mismatch :
    (after (.logCut 1 [0, 42, 2, 0]) (sawing [logIn 42 .sawing 3 3])).logs.queue.map
      (fun l => (l.state, l.flags.countMismatch)) = [(.draining, true)] := by decide +kernel

theorem test_stragglerExpiry :
    (after (.stragglerExpiry 41) (sawing [expiredLog 41 .cut 4 4])).logs.queue.map (fun l => (l.state, l.flags.short)) =
      [(.draining, true)] := by decide +kernel

/-- A log that is not CUT is left as it was, with nothing pending too (R24). -/
theorem test_stragglerExpiry_other :
    (after (.stragglerExpiry 41) (sawing [expiredLog 41 .draining 6 0])).logs.queue.map (fun l => (l.state, l.flags.short)) =
      [(.draining, false)] := by decide +kernel

/-! ### Chapter 3: the example of section 3.4.1 -/

/-- Lug 7310 is current, its board present, the vision state ONLINE with context 17. -/
def assembling : State :=
  (holding [Board.opened 7310 none]).setScan { ready.scan with
    currentLug := some 7310, boardPresent := true, vision := .online, context := 17 }

/-- A segment as a head sends it. -/
def rawOf (coverage thickness : Byte) (width : Half) : RawSegment :=
  { coverage := coverage, thickness := thickness, width := width, wane := 0 }

/-- R24: the last awaited board of log 41 closes at the boundary at which the log's straggler timer runs out; either is taken
first. -/
theorem test_straggler_or_close :
    let log := { logIn 41 .cut 5 5 with
      announced := some 6,
      timer := { reload := 40, remaining := 1, running := true, retrigger := .ignore, expiryPending := false } }
    let s := ((assembling.setLogs { ready.logs with queue := [log] }).setChain { ready.chain with
      lug := 7310, aligned := true })
    let close := fun first => after (.syncEyePulse { sample false with expiriesFirst := first }) s
    (close false).logs.queue.map (fun l => (l.state, l.seen, l.flags.short)) = [(.draining, 6, false)] ∧
      (close true).logs.queue.map (fun l => (l.state, l.seen, l.flags.short)) = [(.draining, 5, true)] ∧
      (close true).track.boards.map Board.logId = [none] := by decide +kernel

/-- H5: width 530 is stored as 511 and CLAMPED is set. -/
theorem test_headFrame_clamped :
    (after (.headFrame 5 { tag := 142, head := 5, first := rawOf 2 54 530, second := rawOf 2 54 180 }) assembling).track.boards.map
      (fun b => ((b.segments.getD 10 Segment.opened).width, b.flags.clamped)) = [(511, true)] := by decide +kernel

/-- H2 with the tag of the lug before: late. -/
theorem test_headFrame_late :
    let t := after (.headFrame 2 { tag := 141, head := 2, first := rawOf 2 54 180, second := rawOf 2 54 180 }) assembling
    t.scan.late = 1 ∧ t.track = assembling.track := by decide +kernel

/-- The frame scored under an old context (section 3.5.2, board 201): stale, and the board has answered. -/
theorem test_defectFrame_stale :
    let t := after (.defectFrame { tag := 142, head := 0x0B, context := 16, status := 0, entries := List.replicate 22 0 })
      assembling
    t.scan.stale = 1 ∧ t.scan.answered = true ∧ t.scan.held = none := by decide +kernel

/-- A log scan record cut off in the middle counts a fail on its link. -/
theorem test_scannerRecordDiscarded :
    (after (.scannerRecordDiscarded .logScan [.byte 0xA5, .byte 1, .framingError]) ready).link.scannerFails =
      List.replicate 12 0 ++ [1] := by decide +kernel

theorem test_scannerLinkBreak :
    (after (.scannerLinkBreak .vision [.byte 0xA5, .byte 142]) ready).link.scannerFails =
      List.replicate 11 0 ++ [1, 0] := by decide +kernel

/-! ### Chapters 4 and 6: the worked case of section 6.10 -/

/-- Its prices. -/
def workedValues : List ValueEntry :=
  let row := fun (first : Nat) (prices : List Nat) (l : List ValueEntry) =>
    prices.zipIdx.foldl (fun v p => v.set (first + 5 * p.2) { state := .present, value := p.1 }) l
  row 41 [500, 505, 520, 530, 540, 550] <| row 40 [430, 450, 460, 470, 480, 490] <|
    row 81 [380, 400, 410, 420, 430, 440] <| row 80 [340, 360, 370, 390, 400, 410] <|
      row 121 [280, 290, 295, 300, 305, 310] <| row 120 [240, 250, 255, 258, 260, 265] <|
        List.replicate 200 ValueEntry.empty

/-- What a solve of the worked board takes under an override. -/
def workedInput (o : Option Override) : SolveInput :=
  { segments := workedSegments, extent := some (0, 16), geoOnly := false, noScan := false, assemblyRun := some 12,
    override := o, run := some workedRun, limits := Config.builtInBase, generation := 2, values := workedValues,
    orders := [] }

/-- The solve of board 7310 in progress. -/
def solving : State :=
  (holding [boardIn 7310 .solving]).setSolver { running.solver with
    inProgress := some { lug := 7310, reason := .first, input := workedInput none } }

theorem test_solveComplete :
    (after .solveComplete solving).track.boards.map (fun b => (b.state, b.decision)) = [(.solved, some workedDecision)] := by
  decide +kernel

/-- Section 7.9: Station B's chip mark gives the mask of saws 1 to 8. -/
theorem test_solve_chip :
    (decisionOf (workedInput (some { owner := .b, grade := some 4, trim := none, chip := true })) .override).mask = 0x1FE := by
  decide +kernel

theorem test_clearLine :
    let t := after (.clearLine 1 []) (holding [boardIn 7001 .accepted, boardIn 7002 .solved])
    t.track.boards = [] ∧ t.tally.live.body.lost.value = 1 := by decide +kernel

/-! ### Chapter 5: the worked sequence of section 5.7.1 -/

/-- GEOCAP 0 is clamped to 1. -/
theorem test_setBaseRules :
    let t := after (.setBaseRules 1 ((Config.builtInBase.map (BitVec.ofNat 8)).set 26 0)) ready
    codes t = [.acceptedClamped] ∧ t.frames.base = Config.builtInBase.set 26 1 ∧ t.frames.generation = 1 := by decide +kernel

/-- OPEN RUN with CEILING 2 and MINTHK[2] 55. -/
theorem test_openRun :
    let t := after (.openRun 1 [0, 12, 3, 2, 1, 4, 0, 112, 0, 2, 25, 2, 1, 55]) ready
    codes t = [.accepted] ∧ t.frames.effective 25 = 2 ∧ t.frames.effective 1 = 55 ∧ t.frames.generation = 1 := by decide +kernel

theorem test_holdKey :
    let t := after (.holdKey .a 3 40) running
    t.frames.holds.map (fun h => (h.owner, h.ceiling, h.code, h.timer.remaining)) = [(.a, 3, 1, 40)] ∧
      t.frames.effective 25 = 3 ∧ t.link.notices = [.hold .created .a 1 3 40 40 0 1] := by decide +kernel

theorem test_holdKey_full :
    let t := after (.holdKey .a 4 5) (holdingFrames [holdOf .a 3 1 false, holdOf .b 2 2 false, holdOf .a 1 3 false])
    t.frames.holds.length = 3 ∧ t.stationA.output = [.reply .noHoldFull] := by decide +kernel

/-- A#3 expires, and the ceiling returns to B's 2. -/
theorem test_holdExpiry :
    let t := after (.holdExpiry 3) (holdingFrames [holdOf .a 3 1 false, holdOf .b 2 2 false, holdOf .a 1 3 true])
    t.frames.holds.map Hold.code = [1, 2] ∧ t.frames.effective 25 = 2 ∧ t.frames.generation = 1 := by decide +kernel

theorem test_cancelHoldKey :
    (after (.cancelHoldKey .a) (holdingFrames [holdOf .a 3 1 false, holdOf .b 2 2 false])).frames.holds.map Hold.code = [2] := by
  decide +kernel

/-- CLOSE RUN removes B#2, then RUN: two steps of the generation number. -/
theorem test_closeRun :
    let t := after (.closeRun 1 []) (holdingFrames [holdOf .b 2 2 false])
    t.frames.holds = [] ∧ t.frames.run = none ∧ t.frames.generation = 2 := by decide +kernel

/-- The generation number and the three frames of a chain with one hold. -/
theorem test_frameRead :
    ((after (.frameRead 1 []) (holdingFrames [holdOf .b 2 2 false])).link.replies.map fun r => r.data.take 3) =
      [[0, 0, 3]] := by decide +kernel

/-- Index 41 is grade 2, 6 ft, class 2 (R105): 500 is 01F4h. -/
theorem test_priceSet :
    (after (.priceSet 1 [41, 1, 0x01, 0xF4]) ready).solver.values.getD 41 ValueEntry.empty =
      { state := .present, value := 500 } := by decide +kernel

/-- A processor with the prices of the worked case. -/
def priced : State := ready.setSolver { ready.solver with values := workedValues }

theorem test_priceWithdraw :
    ((after (.priceWithdraw 1 [41, 1]) priced).solver.values.getD 41 ValueEntry.empty) = { state := .withdrawn, value := 500 } := by
  decide +kernel

/-- A PRESENT entry stays as it is, and a WITHDRAWN one is PRESENT again. -/
theorem test_priceRestore :
    (after (.priceRestore 1 [40, 2]) (after (.priceWithdraw 1 [41, 1]) priced)).solver.values = workedValues := by
  decide +kernel

/-- An ABSENT entry and a PRESENT one at 430. -/
theorem test_priceRead :
    ((after (.priceRead 1 [39, 2]) priced).link.replies.map Reply.data) = [[2, 0, 0, 0, 1, 0x01, 0xAE]] := by decide +kernel

/-! ### Chapter 7: the worked sequence of section 7.9 -/

theorem test_gradeMarkKey :
    let t := after (.gradeMarkKey .a 3) (selecting [boardIn 9200 .solved] 9200)
    t.track.boards.map (fun b => (b.state, b.override)) =
      [(.solving, some { owner := .a, grade := some 3, trim := none, chip := false })] ∧
      t.solver.inProgress.map Solve.reason = some .override := by decide +kernel

theorem test_trimMarkKey :
    (after (.trimMarkKey .a 1 6) (selecting [boardIn 9200 .solved] 9200)).track.boards.map Board.override =
      [some { owner := .a, grade := none, trim := some (1, 6), chip := false }] := by decide +kernel

/-- Segments 16 and 17 are not FULL. -/
theorem test_trimMarkKey_noWood :
    (after (.trimMarkKey .a 1 9) (selecting [boardIn 9200 .solved] 9200)).stationA.output = [.reply .noWood] := by decide +kernel

/-- Station B's C supersedes Station A's record whole, and A is told. -/
theorem test_chipKey :
    let board := { boardIn 9200 .solved with
      windowB := .isOpen, override := some { owner := .a, grade := some 3, trim := some (1, 6), chip := false } }
    let t := after (.chipKey .b) ((holding [board]).setStationB { ready.stationB with selection := some 9200 })
    t.stationB.output.head? = some (.reply .ok) ∧ t.stationA.output = [.superseded 9200 .b] := by decide +kernel

/-- A C with no selection and a last board: TOO LATE. -/
theorem test_chipKey_tooLate :
    (after (.chipKey .a) (ready.setStationA { ready.stationA with last := some 9202 })).stationA.output =
      [.reply .noTooLate] := by decide +kernel

theorem test_releaseKey :
    let board := { boardIn 9200 .solved with override := some { owner := .a, grade := some 3, trim := none, chip := false } }
    (after (.releaseKey .a) (selecting [board] 9200)).track.boards.map Board.override = [none] := by decide +kernel

/-- P returns to the older board. -/
theorem test_selectOlderKey :
    (after (.selectOlderKey .a) (selecting [boardIn 9200 .solved, boardIn 9202 .solved] 9202)).stationA.selection = some 9200 := by
  decide +kernel

theorem test_refreshKey :
    (after (.refreshKey .b) ready).stationB.output = [.reply .ok, .display { board := none, holds := [] }] := by decide +kernel

/-- `H 6 5`: a ceiling outside 1 to 5. -/
theorem test_stationSyntaxRecord :
    let t := after (.stationSyntaxRecord .a
      [.byte 0x48, .byte 0x20, .byte 0x36, .byte 0x20, .byte 0x35, .byte 0x0D]) running
    t.stationA.output = [.reply .noSyntax] ∧ t.stationA.syntaxCount = 1 ∧ t.frames = running.frames := by decide +kernel

theorem test_stationLineSent :
    (after (.stationLineSent .b) (after (.refreshKey .b) ready)).stationB.output =
      [.display { board := none, holds := [] }] := by decide +kernel

/-! ### Chapter 8: the worked sequence of section 8.13 -/

theorem test_ackRise :
    let t := after .ackRise (onTheLines .interlocked)
    t.track.boards.map Board.state = [.accepted] ∧ t.trimmer.lines = TrimLines.inactive ∧ t.trimmer.phase = .recovering := by
  decide +kernel

/-- ACK rises with DV inactive: the HANDSHAKE fault, with the tag last driven. -/
theorem test_ackRise_fault :
    let t := after .ackRise (ready.setTrimmer { ready.trimmer with lastTag := 25 })
    t.trimmer.handshakeFaults = 1 ∧ t.link.notices = [.fault (.handshake 0 25)] := by decide +kernel

/-- ACK falls: 7001 is presented again. -/
theorem test_ackFall :
    let t := after .ackFall (recovering .interlocked)
    t.trimmer.lines = { saws := 0x1C2, tag := 25, dv := true } ∧ t.trimmer.representations = 1 := by decide +kernel

theorem test_pulseEnd : (after .pulseEnd (onTheLines .pulsed)).track.boards.map Board.state = [.accepted] := by decide +kernel

theorem test_pulseGapEnd : (after .pulseGapEnd (recovering .pulsed)).trimmer.phase = .on := by decide +kernel

/-- A sorter whose strobe of bin 12 and stamp 3 is on the lines, with 7001's waiting. -/
def strobing : State :=
  ready.setSorter { ready.sorter with
    bins := [(workedKey, 12)], strobe := .strobing { bin := 12, stamp := 3 } 20, waiting := some { bin := 31, stamp := 7 } }

theorem test_strobeEnd : (after .strobeEnd strobing).sorter.lines = (0, 0, false) := by decide +kernel

theorem test_strobeGapEnd : (after .strobeGapEnd (after .strobeEnd strobing)).sorter.lines = (31, 7, true) := by decide +kernel

theorem test_binSet : (after (.binSet 1 ([0] ++ keyBytes ++ [12])) ready).sorter.bins = [(workedKey, 12)] := by decide +kernel

theorem test_binClear :
    codes (after (.binClear 1 ([0] ++ keyBytes)) (after (.binClear 1 ([0] ++ keyBytes)) strobing)) = [.accepted, .notFound] := by
  decide +kernel

/-- The default bin, the number of entries, and the entry. -/
theorem test_binRead :
    (after (.binRead 1 []) strobing).link.replies.map Reply.data = [[30, 1] ++ keyBytes ++ [12]] := by decide +kernel

/-! ### Chapter 9: the worked sequence of section 9.8 -/

/-- Its order: target 500, DISCOUNT 80. -/
theorem test_orderSet :
    (after (.orderSet 1 (keyBytes ++ [0, 0, 0, 0x01, 0xF4, 1, 80])) ready).tally.orders =
      [{ openOrder with filled := Counter.zero }] := by decide +kernel

/-- A new target at or below what is filled makes the record FILLED, with its notice. -/
theorem test_orderSet_filled :
    let t := after (.orderSet 1 (keyBytes ++ [0, 0, 0, 0x01, 0xA4, 1, 80])) (ordering [openOrder])
    t.tally.orders.map Order.state = [.filled] ∧ t.link.notices.length = 1 := by decide +kernel

/-- Board 8101: the order is FILLED at 540, its bin stands at 15 pieces and 1800 twelfths. -/
theorem test_accepted_piece :
    let bin : TallyBin := { key := workedKey, width := 6, pieces := { value := 14, saturated := false },
                            twelfths := { value := 1680, saturated := false } }
    let s := ready.setTally { ready.tally with
      live := { LiveTally.empty with body := { LiveTally.empty.body with bins := [bin] } }, orders := [openOrder] }
    let t := s.tallyResult (.accepted workedDecision) true 8101
    t.tally.orders.map (fun o => (o.filled.value, o.state)) = [(540, .filled)] ∧
      t.tally.live.body.bins.map (fun b => (b.pieces.value, b.twelfths.value)) = [(15, 1800)] := by decide +kernel

theorem test_orderCancel :
    codes (after (.orderCancel 1 keyBytes) (after (.orderCancel 1 keyBytes) (ordering [openOrder]))) =
      [.accepted, .notFound] := by decide +kernel

theorem test_orderRead :
    ((after (.orderRead 1 []) (ordering [openOrder])).link.replies.map fun r => r.data.take 3) = [[1] ++ keyBytes] := by
  decide +kernel

theorem test_tallyRead :
    (after (.tallyRead 1 [0, 0, 64]) ready).link.replies.map Reply.data = [[0, 1, 0, 0, 0]] := by decide +kernel

theorem test_tallyClose :
    let t := after (.tallyClose 1 []) ready
    t.tally.period = 2 ∧ t.store.queue = [.period emptyPeriod, .checkpoint] := by decide +kernel

/-- The current period is not kept. -/
theorem test_periodRead : codes (after (.periodRead 1 [0, 1, 0, 0, 1]) ready) = [.notFound] := by decide +kernel

/-! ### Chapter 10: the store -/

theorem test_powerFailWarning :
    let t := after .powerFailWarning ready
    t.store.warned = true ∧ t.store.queue = [.checkpoint] := by decide +kernel

theorem test_powerFailRelease : (after .powerFailRelease (after .powerFailWarning ready)).store.warned = false := by decide +kernel

theorem test_checkpointWriteDone :
    let t := after .checkpointWriteDone (after .powerFailWarning ready)
    t.store.queue = [] ∧ t.store.blocks.map (fun b => b.records.length) = [1, 0, 0, 0] := by decide +kernel

theorem test_periodWriteDone :
    let t := after .periodWriteDone (after (.tallyClose 1 []) ready)
    t.store.queue = [.checkpoint] ∧ t.store.inFlight.isSome = true := by decide +kernel

/-- The first settings record makes its block STATIC. -/
theorem test_settingsWriteDone :
    (after .settingsWriteDone (after (.saveSettings 1 [1, 0, 0, 20, 32]) ready)).store.blocks.map Block.state =
      [.static, .active, .free, .free] := by decide +kernel

/-- The new block is STATIC, and the former one is erased. -/
theorem test_relocateStaticDone :
    let s := storing [.relocate] (some (writing (.settings Settings.builtIn) true))
    let t := after .relocateStaticDone (s.setStore { s.store with
      blocks := [{ Block.blank with state := .static, role := .static }, { Block.blank with role := .static }] })
    t.store.blocks.map (fun b => (b.state, b.eraseCount)) = [(.free, 1), (.static, 0)] := by decide +kernel

theorem test_reclaimEraseDone :
    let s := ready.setStore { ready.store with
      blocks := [{ Block.blank with state := .full, eraseCount := 7 }], erasing := some 0, conditionFull := true }
    (after (.reclaimEraseDone false) s).store.conditionFull = false ∧
      (after (.reclaimEraseDone false) s).store.blocks.map (fun b => (b.state, b.eraseCount)) = [(.free, 8)] := by
  decide +kernel

/-- Section 10.8: the checkpoint in flight is torn. -/
theorem test_powerLoss :
    let t := after (.powerLoss { markWritten := false, headerLost := false }) (after .powerFailWarning ready)
    t.power = .off ∧ (t.store.blocks.flatMap Block.records).map StoreRecord.valid = [false] := by decide +kernel

/-- R160: a record with its completion mark whose check word does not agree is torn. -/
theorem test_checkWordDisagrees (body : StoreBody) (seq : BitVec 32) :
    ({ StoreRecord.written body seq with check := body.checkWord seq + 1 } : StoreRecord).valid = false := by
  simp [StoreRecord.valid]

/-- The flash of section 10.8 after that cut: the checkpoint and the record of period 41, and the torn checkpoint. -/
def poweredFlash : List Block :=
  let record := fun body seq mark => { StoreRecord.written body seq with mark := mark }
  [{ Block.blank with eraseCount := 64, state := .active, records :=
    [record (.checkpoint { emptyCheckpoint with period := 41, orders := [openOrder] }) 40210 true,
     record (.period { emptyPeriod with period := 41 }) 40211 true,
     record (.checkpoint { emptyCheckpoint with period := 42 }) 40212 false] }]

/-- That flash holds no settings record, before its headers are read and after. -/
theorem test_poweredFlash_settings :
    newestSettings poweredFlash = none ∧ newestSettings (readHeaders poweredFlash) = none := by
  simp [newestSettings, validRecords, readHeaders, poweredFlash, Block.blank, newestOf, StoreRecord.isSettings]

/-- Section 10.8: the restart finds period record 41 beside the checkpoint of period 41: period 42, the checkpoint's order,
the next sequence number after the torn record. -/
theorem test_powerOn :
    let t := after (.powerOn false) ((ready.setPower .off).setStore { ready.store with blocks := poweredFlash })
    t.tally = { Tally.initial 32 with period := 42, orders := [openOrder] } ∧ t.start.outcome = .period ∧
      t.store.nextSeq = 40213 ∧ t.store.blocks.map Block.state = [.active] := by
  have store : restoreStore poweredFlash = { Store.initial poweredFlash with nextSeq := 40213 } := by
    simp only [restoreStore, settleStatic, test_poweredFlash_settings]
    rfl
  have tally : restoreTally ((newestCheckpoint poweredFlash).bind StoreRecord.checkpoint?)
      ((newestPeriod poweredFlash).bind StoreRecord.period?) Config.defaultInterval =
        ({ Tally.initial 32 with period := 42, orders := [openOrder] }, .period) := by
    simp [newestCheckpoint, newestPeriod, validRecords, poweredFlash, Block.blank, newestOf, StoreRecord.isCheckpoint,
      StoreRecord.isPeriod, StoreRecord.checkpoint?, StoreRecord.period?, List.filter_cons]
    rfl
  have ended : ∀ x : State, x.store.blocks = poweredFlash → x.endRestore =
      ((x.takeSettings Settings.builtIn).setStart { x.start with restored := true, settingsSaved := false }).setScan
        { x.scan with vision := if x.pins.visionPresent then .contextPending else .absent } := by
    intro x h
    simp only [State.endRestore, h, test_poweredFlash_settings]
    rfl
  have key : ((ready.setPower .off).setStore { ready.store with blocks := poweredFlash }).powerUp false =
      State.initial (.starting .powerOn) { ready.pins with visionPresent := false }
        { restored := true, settingsSaved := false, outcome := .period } Settings.builtIn false
        { Tally.initial 32 with period := 42, orders := [openOrder] }
        { Store.initial poweredFlash with nextSeq := 40213 } ready.pending := by
    show State.beginStarting _ _ _ = _
    simp only [State.beginStarting, State.setStore_store, store, show (Store.initial poweredFlash).blocks = poweredFlash from rfl,
      tally]
    exact ended _ rfl
  have next : after (.powerOn false) ((ready.setPower .off).setStore { ready.store with blocks := poweredFlash }) =
      State.takeUp (State.powerUp ((ready.setPower .off).setStore { ready.store with blocks := poweredFlash }) false) := rfl
  rw [next, key]
  exact ⟨rfl, rfl, rfl, rfl⟩

theorem test_resetAssertion :
    (after (.resetAssertion { markWritten := false, headerLost := false }) ready).power = .resetHeld := by decide +kernel

theorem test_resetRelease :
    let t := after (.resetRelease true) (ready.setPower .resetHeld)
    t.power = .starting .reset ∧ t.scan.vision = .contextPending := by decide +kernel

theorem test_startingEnd :
    let t := after .startingEnd (ready.setPower (.starting .powerOn))
    t.power = .ready ∧ t.link.notices = [.ready .powerOn .absent false .none false 1] := by decide +kernel

/-! ### Chapter 11: the worked sequence of section 11.6 -/

/-- LOG 57 at COMMIT, LOCAL, capture. -/
theorem test_watchSet :
    (after (.watchSet 1 [0, 0, 0, 0, 57, 1, 0, 1, 0]) ready).watch.slots.head? =
      some { state := .armed, hits := 0, lastHit := none, captureLost := false,
             program := some { condition := .log 57, point := .commit, scope := .localRun, capture := true,
                               oneShot := false } } := by decide +kernel

theorem test_watchClear :
    (after (.watchClear 1 [0]) (after (.watchSet 1 [0, 0, 0, 0, 57, 1, 0, 1, 0]) ready)).watch = ready.watch := by decide +kernel

/-- A processor with two captures. -/
def captured : State :=
  ready.setWatch { ready.watch with captures :=
    [{ slot := 0, point := .commit, lug := 8101, board := boardIn 8101 .committed },
     { slot := 0, point := .commit, lug := 8102, board := boardIn 8102 .committed }] }

theorem test_captureRead :
    (after (.captureRead 1 []) captured).watch.captures.map Capture.lug = [8102] := by decide +kernel

/-! ### Chapter 12: the link -/

theorem test_saveSettings :
    let t := after (.saveSettings 1 [1, 0, 1, 20, 8]) ready
    t.stationA.retrigger = .ignore ∧ t.trimmer.mode = .pulsed ∧ t.tally.interval = 8 ∧ t.store.queue.length = 2 := by
  decide +kernel

/-- Section 12.9.1: STATUS with tag 5Ah is answered with 13 sections, the first numbered 1. -/
theorem test_status :
    (after (.status 0x5A [] true) ready).link.replies.map (fun r => (r.type, r.tag, r.code, r.data.head?)) =
      [(0x01, 0x5A, .accepted, some 1)] := by decide +kernel

theorem test_unknownType : codes (after (.unknownType 0x1C 9 []) ready) = [.unknownType] := by decide +kernel

theorem test_frameDiscarded :
    (after (.frameDiscarded [.byte 0x7E, .byte 0x04, .byte 0x01]) ready).link.badLengths = 1 := by decide +kernel

theorem test_lineLinkBreak : (after (.lineLinkBreak [.byte 0x7E, .byte 0]) ready).link.brokenFrames = 1 := by decide +kernel

/-- Replies go before notices. -/
theorem test_frameSent :
    let t := after .frameSent (after (.logStart 1 []) (after .lineStop ready))
    t.link.notices = [] ∧ t.link.sending = some .reply := by decide +kernel

/-! ### For each statement with hypotheses, states that meet them -/

theorem ready_attentive : ready.Attentive := ⟨rfl, rfl⟩

theorem ready_blocks : ∀ b ∈ ready.store.blocks, b.records = [] := by decide

theorem ready_canAnswer : ready.CanAnswer := ⟨⟨rfl, rfl⟩, by decide⟩

/-- Of `SendersNeverStandIdle`. -/
theorem witness_senders_settled : ready.Settled ∧ exec .lineStop ready = .next (after .lineStop ready) := ⟨rfl, rfl⟩

/-- Of `EncoderPulseCountsPhaseOrBacklash`: from the pair 00, an error; a reverse pulse; a forward pulse with one pulse of
backlash; a forward pulse one short of the boundary. -/
theorem witness_encoderPulse :
    ready.Attentive ∧ (true ≠ ready.pins.encA ∧ true ≠ ready.pins.encB) ∧
      (ready.pins.encA, ready.pins.encB, true, false) ∈ reverseChanges ∧
      (ready.pins.encA, ready.pins.encB, false, true) ∈ forwardChanges ∧
      (let s := ready.setChain { ready.chain with backlash := 1 }
       s.Attentive ∧ 0 < s.chain.backlash) ∧
      (let s := chainAt 510 false
       s.Attentive ∧ s.chain.backlash = 0 ∧ s.chain.phase + 1 < s.chain.config.pulses) :=
  ⟨ready_attentive, by decide, by decide, by decide, ⟨⟨rfl, rfl⟩, by decide⟩, ⟨rfl, rfl⟩, by decide, by decide⟩

/-- Of `EncoderBoundaryTakesNextLug`: phase 511, a board of the lug before held. -/
theorem witness_encoderBoundary :
    let s := (chainAt 511 true).setTrack { ready.track with boards := [boardIn 1000 .assembling] }
    s.Attentive ∧ (s.pins.encA, s.pins.encB, false, true) ∈ forwardChanges ∧ s.chain.backlash = 0 ∧
      s.chain.config.pulses ≤ s.chain.phase + 1 ∧ s.chain.config.inRange = true ∧
      (∀ k ∈ s.track.boards, k.lug ≠ s.chain.lug + 1) ∧ s.scan.currentLug ≠ some (s.chain.lug + 1) :=
  ⟨⟨rfl, rfl⟩, by decide, by decide, by decide, by decide, by decide, by decide⟩

/-- Of `SyncEyeAlignsOrCorrectsPhase`: the first eye; a late eye at the tolerance 32, and one pulse beyond it; an early eye at
the tolerance, and one pulse beyond it. -/
theorem witness_syncEye :
    (ready.Attentive ∧ ready.chain.aligned = false) ∧
      (let s := chainAt 32 true
       s.Attentive ∧ s.chain.aligned = true ∧ s.chain.boundaryMark = true ∧ s.chain.phase ≤ s.chain.config.tolerance) ∧
      (let s := chainAt 33 true
       s.Attentive ∧ s.chain.aligned = true ∧ s.chain.boundaryMark = true ∧ s.chain.config.tolerance < s.chain.phase) ∧
      (let s := chainAt 480 false
       s.Attentive ∧ s.chain.aligned = true ∧ s.chain.boundaryMark = false ∧
         ¬ s.chain.config.tolerance < s.chain.config.pulses - s.chain.phase) ∧
      (let s := chainAt 479 false
       s.Attentive ∧ s.chain.aligned = true ∧ s.chain.boundaryMark = false ∧
         s.chain.config.tolerance < s.chain.config.pulses - s.chain.phase) :=
  ⟨⟨ready_attentive, rfl⟩, ⟨⟨rfl, rfl⟩, by decide⟩, ⟨⟨rfl, rfl⟩, by decide⟩, ⟨⟨rfl, rfl⟩, by decide⟩,
    ⟨⟨rfl, rfl⟩, by decide⟩⟩

/-- The line stopped, with the level of its input. -/
def stoppedLine (level : Bool) (t : Trimmer) : State :=
  ((ready.setChain { ready.chain with line := .stopped }).setPins { ready.pins with lineStop := level }).setTrimmer t

/-- A decision that waits for the line. -/
def waitingSlot : Trimmer := { ready.trimmer with presented := some { lug := 7001, mask := 0x1C2, again := true } }

/-- Of `LineStopsAndResumes`. -/
theorem witness_line :
    (ready.CanAnswer ∧ ready.chain.line = .running) ∧
      (let s := stoppedLine true ready.trimmer
       s.CanAnswer ∧ s.chain.line = .stopped ∧ s.pins.lineStop = true) ∧
      (let s := stoppedLine false waitingSlot
       s.CanAnswer ∧ s.chain.line = .stopped ∧ s.pins.lineStop = false ∧ s.trimmer.presented.isSome = true ∧
         s.trimmer.onLines = false ∧ s.trimmer.phase = .ready) ∧
      (let s := stoppedLine false ready.trimmer
       s.CanAnswer ∧ s.trimmer.presented = none) :=
  ⟨⟨ready_canAnswer, rfl⟩, ⟨⟨⟨rfl, rfl⟩, by decide⟩, by decide⟩, ⟨⟨⟨rfl, rfl⟩, by decide⟩, by decide⟩,
    ⟨⟨rfl, rfl⟩, by decide⟩, rfl⟩

/-- The checks of R10, as `SetLineTakesAllOrNothing` writes them. -/
def goodLine (v : LineConfig) : Bool :=
  decide (64 ≤ v.pulses ∧ v.pulses ≤ 4096 ∧ v.tolerance ≤ v.pulses / 4 ∧ 1 ≤ v.markA ∧ v.markA ≤ 30 ∧ 1 ≤ v.markB ∧
    v.markB ≤ 30 ∧ 1 ≤ v.window ∧ v.window ≤ 10 ∧ v.markA < v.commit ∧ v.markB < v.commit ∧ v.commit ≤ 40 ∧
    v.commit < v.deadline ∧ v.deadline ≤ 50 ∧ v.deadline ≤ v.sort ∧ v.sort ≤ 62)

/-- Of `SetLineTakesAllOrNothing`: 63 pulses are too few, 64 and the greatest values of every field are good. -/
theorem witness_setLine :
    (ready.CanAnswer ∧ (holding [boardIn 5 .solved]).CanAnswer) ∧
      goodLine (setLineFields [0, 63, 0, 0, 6, 9, 3, 14, 18, 24]) = false ∧
      goodLine (setLineFields [0, 64, 0, 16, 30, 30, 10, 40, 50, 62]) = true ∧
      goodLine (setLineFields [2, 0, 0, 0, 1, 1, 1, 2, 3, 3]) = true ∧
      (setLineFields [2, 0, 0, 0, 1, 1, 1, 2, 3, 3]).pulses = ready.chain.config.pulses ∧
      (setLineFields [0, 64, 0, 16, 30, 30, 10, 40, 50, 62]).pulses ≠ ready.chain.config.pulses :=
  ⟨⟨ready_canAnswer, ⟨rfl, rfl⟩, by decide⟩, by decide⟩

/-- Of `LogScanRecordCreatesLog`: 1 and 42 stations; no reading at two stations; a reading at two and at 41, with fifteen
logs open. -/
theorem witness_logScan :
    let s := sawing (List.replicate 15 (logIn 1 .scanned 0 0))
    s.Attentive ∧ s.logs.queue.length < 16 ∧ ([120] : List Half).length < 2 ∧ 41 < (List.replicate 42 (120 : Half)).length ∧
      (2 ≤ ([0, 0] : List Half).length ∧ ∀ d ∈ ([0, 0] : List Half).map BitVec.toNat, d = 0) ∧
      (2 ≤ ([0, 19] : List Half).length ∧ ∃ d ∈ ([0, 19] : List Half).map BitVec.toNat, d ≠ 0) ∧
      ((List.replicate 41 (601 : Half)).length ≤ 41 ∧ ∃ d ∈ (List.replicate 41 (601 : Half)).map BitVec.toNat, d ≠ 0) :=
  ⟨⟨rfl, rfl⟩, by decide, by decide, by decide, by decide, by decide, by decide⟩

/-- Of `LogRequestsFollowTheLogState`: the refusals and the choice of LOG START; the refusals of LOG CUT, and its log with
five, six and seven boards seen of six announced, and with none pending. -/
theorem witness_logRequests :
    (∃ l ∈ (sawing [logIn 41 .sawing 0 0]).logs.queue, l.state = .sawing) ∧
      (∀ l ∈ (sawing [logIn 41 .cut 0 0]).logs.queue, l.state ≠ .scanned) ∧
      (let s := sawing [logIn 41 .cut 1 1, logIn 42 .scanned 0 0, logIn 43 .scanned 0 0]
       s.CanAnswer ∧ s.logs.queue = [logIn 41 .cut 1 1] ++ logIn 42 .scanned 0 0 :: [logIn 43 .scanned 0 0] ∧
         (∀ x ∈ [logIn 41 .cut 1 1], x.state ≠ .scanned) ∧ (∀ x ∈ s.logs.queue, x.state ≠ .sawing) ∧
         ∀ x ∈ [logIn 41 .cut 1 1] ++ [logIn 43 .scanned 0 0], x.id ≠ (logIn 42 .scanned 0 0).id) ∧
      (∀ l ∈ (sawing [logIn 42 .sawing 0 0]).logs.queue, l.state = .sawing → l.id ≠ 41) ∧
      (∀ x ∈ (sawing [logIn 42 .sawing 0 0]).logs.queue, ∀ y ∈ (sawing [logIn 42 .sawing 0 0]).logs.queue,
        x.id = y.id → x = y) ∧
      ((0 : Byte).toNat * 256 + (41 : Byte).toNat = 41 ∧ (200 : Byte).toNat ≤ 200 ∧ 200 < (201 : Byte).toNat) ∧
      (∀ n ∈ [5, 6, 7], (sawing [logIn 41 .sawing n 1]).CanAnswer ∧ (logIn 41 .sawing n 1).timer.running = false) ∧
      ((logIn 41 .sawing 5 1).seen < (6 : Byte).toNat ∧ (6 : Byte).toNat ≤ (logIn 41 .sawing 6 1).seen ∧
        0 < (logIn 41 .sawing 6 1).pending ∧ (logIn 41 .sawing 6 0).pending = 0) := by
  refine ⟨by decide, by decide, ⟨⟨⟨rfl, rfl⟩, by decide⟩, rfl, by decide, by decide, by decide⟩, by decide, by decide,
    by decide, ?_, by decide⟩
  intro n hn
  simp only [List.mem_cons, List.not_mem_nil, or_false] at hn
  rcases hn with rfl | rfl | rfl <;> exact ⟨⟨⟨rfl, rfl⟩, by decide⟩, rfl⟩

/-- Of `StragglerExpiryDrainsTheLog`: no log of the id; no expiry pending; a log that is SCANNED, saws or drains, with boards pending
and with none; a CUT log with boards pending, and with none. -/
theorem witness_straggler :
    (logIn 41 .cut 4 4).timer.expiryPending = false ∧
      (∀ l ∈ [expiredLog 41 .scanned 0 0, expiredLog 41 .sawing 4 4, expiredLog 41 .draining 6 2, expiredLog 41 .draining 6 0,
          expiredLog 41 .cut 4 1, expiredLog 41 .cut 4 0],
        l.timer.expiryPending = true ∧ ∀ x ∈ [logIn 40 .draining 1 1] ++ [logIn 42 .scanned 0 0], x.id ≠ l.id) ∧
      (let s := sawing ([logIn 40 .draining 1 1] ++ expiredLog 41 .cut 4 0 :: [logIn 42 .scanned 0 0])
       s.Attentive ∧ ∀ l ∈ s.logs.queue, l.id ≠ 43) :=
  ⟨by decide, by decide, ⟨rfl, rfl⟩, by decide⟩

/-- Of `EveryStepKeepsLogAccounts`: a CUT log with one board to come. -/
theorem witness_logAccounts :
    (sawing [{ logIn 41 .cut 5 1 with announced := some 6 }]).logs.AccountsAddUp ∧
      step (sawing [logIn 41 .sawing 4 4]) = .next (sawing [logIn 41 .sawing 4 4]) := by
  refine ⟨⟨by decide, by decide, by decide, ?_⟩, rfl⟩
  intro l hl
  obtain rfl : l = { logIn 41 .cut 5 1 with announced := some 6 } := List.mem_singleton.1 hl
  exact ⟨⟨by decide, by decide, fun _ => ⟨6, rfl, by decide⟩⟩, by decide, by decide⟩

/-- Of `HeadFrameFillsItsTwoSegments` and `HeadFramesOfDifferentHeadsCommute`: lug 7310 with tag 142, its board present, absent,
and cleared; the four coverage codes at their bounds. -/
theorem witness_headFrame :
    assembling.Attentive ∧ assembling.scan.currentLug = some 7310 ∧ BitVec.ofNat 8 (7310 : Lug).toNat = 142 ∧
      (5 : Byte).toNat = (5 : Fin 11).val ∧ (4 : Byte).toNat ≠ (5 : Fin 11).val ∧ (0 : Fin 11) ≠ 10 ∧
      (∀ lug, assembling.scan.currentLug = some lug → BitVec.ofNat 8 lug.toNat ≠ 141) ∧
      (assembling.setScan { assembling.scan with boardPresent := false, cleared := true }).Attentive ∧
      ((0 : Byte).toNat = 0 ∧ (1 : Byte).toNat = 1 ∧ (2 : Byte).toNat = 2 ∧ 3 ≤ (3 : Byte).toNat) :=
  ⟨⟨rfl, rfl⟩, rfl, by decide, by decide, by decide, by decide, fun lug h => by
    obtain rfl : (7310 : Lug) = lug := Option.some.inj h
    decide, ⟨rfl, rfl⟩, by decide⟩

/-- A processor that assembles, in a vision state. -/
def seeing (vision : VisionState) (present cleared : Bool) : State :=
  assembling.setScan { assembling.scan with vision := vision, boardPresent := present, cleared := cleared }

/-- Of `DefectFrameByVisionState`: each vision state, the matching tag 142, a context number that is stale. -/
theorem witness_defectFrame :
    (∀ v ∈ [VisionState.absent, .contextPending, .online, .offline], (seeing v true false).Attentive) ∧
      (seeing .online false true).Attentive ∧ (seeing .online false false).Attentive ∧
      (∃ lug, (seeing .online true false).scan.currentLug = some lug ∧ BitVec.ofNat 8 lug.toNat = 142) ∧
      ((0x0C : Byte) ≠ 0x0B ∧ (16 : Byte) ≠ assembling.scan.context ∧ (17 : Byte) = assembling.scan.context) := by
  refine ⟨?_, ⟨rfl, rfl⟩, ⟨rfl, rfl⟩, ⟨7310, rfl, by decide⟩, by decide⟩
  intro v _
  cases v <;> exact ⟨rfl, rfl⟩

/-- Of `WindowCloseSettlesTheBoard`: a held frame with status OK, and none; wood at both ends, and none at all. -/
theorem witness_windowClose :
    let f : DefectFrame := { tag := 142, head := 0x0B, context := 17, status := 0, entries := List.replicate 22 0x8F }
    let s := (assembling.setScan { assembling.scan with held := some f }).setTrack
      { assembling.track with boards := [boardIn 7310 .assembling] }
    s.board? 7310 = some (boardIn 7310 .assembling) ∧ s.scan.held = some f ∧ f.status = 0 ∧ assembling.scan.held = none ∧
      (∃ x ∈ (boardIn 7310 .assembling).segments, x.coverage = .full ∨ x.coverage = .part) ∧
      (∃ x, (boardIn 7310 .assembling).segments[16]? = some x ∧ x.coverage ≠ .none) ∧
      ¬ ∃ x ∈ (Board.opened 7310 none).segments, x.coverage = .full ∨ x.coverage = .part :=
  ⟨rfl, rfl, rfl, rfl, by decide, ⟨_, rfl, by decide⟩, by decide⟩

/-- Of `ScannerRecordDiscardedIsCounted`: contents of each link's length, and one byte short. -/
theorem witness_scannerRecord :
    ready.Attentive ∧ ready.link.scanners.length = 13 ∧ (∀ h, ready.link.scannerRx (.head h) = none) ∧
      ready.link.scannerRx .vision = none ∧ ready.link.scannerRx .logScan = none ∧
      (List.replicate 12 (0 : Byte)).length = 12 ∧ (List.replicate 26 (0 : Byte)).length = 26 ∧
      (∃ n rest, ([1, 0, 120] : List Byte) = n :: rest ∧ rest.length = 2 * n.toNat) ∧ (1 : Byte) ≠ sumCheck [1, 0, 120] :=
  ⟨ready_attentive, rfl, by decide, rfl, rfl, by decide, by decide, ⟨1, [0, 120], rfl, by decide⟩, by decide⟩

/-- Of `SolveCompletionWritesTheDecision`: a board in SOLVING with another request and without, its commit due or not, and a
board past SOLVING. -/
theorem witness_solveComplete :
    solving.Attentive ∧ solving.solver.inProgress.map Solve.lug = some 7310 ∧
      solving.board? 7310 = some (boardIn 7310 .solving) ∧ (boardIn 7310 .solving).commitDue = false ∧
      (let s := solving.setSolver { solving.solver with queue := [(7310, .override)] }
       s.Attentive ∧ ∃ e ∈ s.solver.queue, e.1 = 7310) ∧
      (let s := solving.setTrack { solving.track with boards := [{ boardIn 7310 .solving with commitDue := true }] }
       s.Attentive ∧ s.board? 7310 = some { boardIn 7310 .solving with commitDue := true }) ∧
      (solving.setTrack { solving.track with boards := [boardIn 7310 .missed] }).board? 7310 = some (boardIn 7310 .missed) ∧
      (boardIn 7310 .missed).state ≠ .solving :=
  ⟨⟨rfl, rfl⟩, rfl, rfl, rfl, ⟨⟨rfl, rfl⟩, by decide⟩, ⟨⟨rfl, rfl⟩, rfl⟩, rfl, by decide⟩

/-- Of `LugEventsMoveTheBoard`: a board in each state, with both slots empty, full, and holding the board alone. -/
theorem witness_lugEvents :
    (∀ x ∈ [BoardState.solving, .solved, .committed, .accepted, .missed],
      (holding [boardIn 7001 x]).board? 7001 = some (boardIn 7001 x) ∧ (boardIn 7001 x).state = x) ∧
      (boardIn 7001 .solved).decision = some workedDecision ∧ ready.trimmer.presented = none ∧
      (let t : Trimmer := { waitingSlot with staged := some { lug := 7002, mask := 0, again := false } }
       t.presented.isSome = true ∧ t.staged.isSome = true) ∧
      ((onTheLines .interlocked).trimmer.presented.map Slot.lug = some 7001 ∧
        (onTheLines .interlocked).trimmer.presented.map Slot.lug ≠ (onTheLines .interlocked).trimmer.staged.map Slot.lug) ∧
      ∀ w ∈ ready.watch.slots, w.state ≠ .armed := by
  refine ⟨?_, rfl, rfl, by decide, by decide, by decide⟩
  intro x _
  cases x <;> exact ⟨rfl, rfl⟩

/-- Of `ClearLineLosesEveryBoard`. -/
theorem witness_clearLine :
    let s := holding [boardIn 7001 .accepted, boardIn 7002 .solved]
    s.CanAnswer ∧ (s.track.boards.map Board.lug).Nodup :=
  ⟨⟨⟨rfl, rfl⟩, by decide⟩, by decide⟩

/-- Of `SetBaseRulesClampsAndCounts`: with a run open and without. -/
theorem witness_setBase :
    (running.CanAnswer ∧ running.solver.run.isSome = true) ∧ (ready.CanAnswer ∧ ready.solver.run = none) ∧
      (Config.builtInBase.map (BitVec.ofNat 8)).length = 27 :=
  ⟨⟨⟨⟨rfl, rfl⟩, by decide⟩, rfl⟩, ⟨ready_canAnswer, rfl⟩, by decide⟩

/-- OPEN RUN as in section 5.7.1, and with nominal thickness 5. -/
def openBody (thickness : Byte) : List Byte := [0, 12, 3, thickness, 1, 4, 0, 112, 0, 2, 25, 2, 1, 55]

/-- Of `OpenRunPlacesTheRunFrame`: the greatest thickness 4 is good, 5 is not; the vision module absent and fitted. -/
theorem witness_openRun :
    ready.CanAnswer ∧ ready.solver.run = none ∧ openFields (openBody 5) = none ∧
      (openFields (openBody 4)).isSome = true ∧ (openBody 4).length = 7 + 3 * 1 + 2 * 2 ∧
      ready.scan.vision = .absent ∧ (ready.setScan { ready.scan with vision := .online }).CanAnswer :=
  ⟨ready_canAnswer, rfl, by decide +kernel, by decide +kernel, by decide, rfl, ⟨⟨rfl, rfl⟩, by decide⟩⟩

/-- Of `CloseRunRemovesTheFrames`. -/
theorem witness_closeRun :
    (ready.CanAnswer ∧ ready.solver.run = none) ∧
      (holdingFrames [holdOf .b 2 2 false]).CanAnswer ∧ (holdingFrames [holdOf .b 2 2 false]).solver.run.isSome = true :=
  ⟨⟨ready_canAnswer, rfl⟩, ⟨⟨rfl, rfl⟩, by decide⟩, rfl⟩

/-- Of `NewestFrameGivesTheLimit`: limits 0, 25 and 26; a HOLD frame, a RUN entry, and neither. -/
theorem witness_newestFrame :
    (0 < 27 ∧ 26 < 27) ∧ (holdingFrames [holdOf .a 3 1 false, holdOf .b 2 2 false]).frames.holds =
        [holdOf .a 3 1 false] ++ [holdOf .b 2 2 false] ∧
      (let f : Frames := { running.frames with run := some [(25, 2), (1, 55)] }
       f.holds = [] ∧ f.run = some [(25, 2), (1, 55)] ∧ ([(25, 2), (1, 55)].map Prod.fst).Nodup ∧
         (25, 2) ∈ [(25, 2), (1, 55)] ∧ 26 ∉ [(25, 2), (1, 55)].map Prod.fst) :=
  ⟨by decide, rfl, rfl, rfl, by decide, by decide, by decide⟩

/-- Of `HoldKeyCreatesOrRetriggers`: no run; two holds of the station; room for one, at the least and the greatest g and n; a
frame of the same ceiling, under RELOAD and under IGNORE. -/
theorem witness_holdKey :
    (ready.Attentive ∧ (ready.station .a).lineCount < 8 ∧ (ready.station .a).buffer = [] ∧
      (ready.station .a).discard = false ∧ ready.frames.run = none) ∧
      (running.Attentive ∧ running.frames.run.isSome = true ∧ 0 ≤ 99999 ∧ 99999 ≤ 99999) ∧
      (let s := holdingFrames [holdOf .a 3 1 false, holdOf .b 2 2 false, holdOf .a 1 3 false]
       s.Attentive ∧ 2 ≤ (s.frames.holds.filter fun h => h.owner = .a).length ∧
         ∀ h ∈ s.frames.holds.filter fun h => h.owner = .a, h.ceiling ≠ 5) ∧
      (let h := holdOf .b 2 2 false
       let s := holdingFrames ([holdOf .a 3 1 false] ++ h :: [holdOf .a 1 3 false])
       s.Attentive ∧ h.owner = .b ∧ h.ceiling = 2 ∧ (∀ x ∈ [holdOf .a 3 1 false], x.owner = .b → x.ceiling ≠ 2) ∧
         h ∉ [holdOf .a 1 3 false] ∧ h ∉ [holdOf .a 3 1 false] ∧ h.timer.retrigger = .reload) ∧
      (let h : Hold := { holdOf .b 2 2 false with timer := { (holdOf .b 2 2 false).timer with retrigger := .ignore } }
       (holdingFrames [h]).Attentive ∧ h.timer.retrigger = .ignore) :=
  ⟨⟨ready_attentive, by decide, rfl, rfl, rfl⟩, ⟨⟨rfl, rfl⟩, rfl, by decide, by decide⟩, ⟨⟨rfl, rfl⟩, by decide, by decide⟩,
    ⟨⟨rfl, rfl⟩, rfl, rfl, by decide, by decide, by decide, rfl⟩, ⟨rfl, rfl⟩, rfl⟩

/-- Of `HoldFrameLeavesTheChain`: the newest frame of its station, and one whose counter has expired. -/
theorem witness_holdLeaves :
    (let s := holdingFrames ([holdOf .b 2 2 false] ++ holdOf .a 1 3 false :: [])
     s.Attentive ∧ (s.station .a).lineCount < 8 ∧ (s.station .a).buffer = [] ∧ (s.station .a).discard = false) ∧
      holdOf .a 1 3 false ∉ [holdOf .b 2 2 false] ∧
      (let s := holdingFrames ([holdOf .a 3 1 false] ++ holdOf .a 1 3 true :: [holdOf .b 2 2 false])
       s.Attentive ∧ (holdOf .a 1 3 true).timer.expiryPending = true ∧ ∀ x ∈ [holdOf .a 3 1 false], x.code ≠ 3) :=
  ⟨⟨⟨rfl, rfl⟩, by decide, rfl, rfl⟩, by decide, ⟨rfl, rfl⟩, rfl, by decide⟩

/-- Of `EveryStepKeepsTheFrameChain`. -/
theorem witness_frameChain : (holdingFrames [holdOf .a 3 1 false, holdOf .b 2 2 false]).FrameChainOk := by
  refine ⟨by decide, rfl, by decide, fun st => by cases st <;> decide, by decide, by decide, by decide, ?_, ?_, ?_⟩
  · intro b hb r hr
    rw [ready_blocks b hb] at hr
    exact absurd hr List.not_mem_nil
  · intro i hi
    exact absurd hi List.not_mem_nil
  · intro f w i hf
    exact absurd (hf : (none : Option InFlight) = some f) nofun

/-- Of `SegmentGradesAndSawMask`: a FULL segment that meets grade 2 first, one that meets no grade, one that is PARTIAL; the
saws 0 and 10; a piece, a chip, and a board without a scan. -/
theorem witness_segmentGrades :
    (woodSegment .full 54 180).coverage = .full ∧ (woodSegment .part 54 0).coverage ≠ .full ∧
      segmentGrade Config.builtInBase false (woodSegment .full 54 180) = some 2 ∧
      segmentGrade Config.builtInBase false (woodSegment .full 43 180) = some 6 ∧
      segmentGrade Config.builtInBase true (woodSegment .full 54 180) = some 3 ∧
      (decisionOf (workedInput none) .first).piece = some workedPiece ∧
      (decisionOf { workedInput none with run := none } .first).piece = none ∧
      { workedInput none with noScan := true }.noScan = true := by decide +kernel

/-- Of `ChosenPieceIsSound`. -/
theorem witness_chosenPiece :
    (decisionOf (workedInput none) .first).piece = some workedPiece ∧ (workedInput none).override = none := by decide +kernel

/-- Of `PriceRequestsChangeTheirRange`: the last entry alone, the whole table, and one entry too many. -/
theorem witness_prices :
    ready.CanAnswer ∧ ready.solver.values.length = 200 ∧ ([1, 0] : List Byte).length = 2 * (1 : Byte).toNat ∧
      ((199 : Byte).toNat ≤ 199 ∧ 1 ≤ (1 : Byte).toNat ∧ (199 : Byte).toNat + (1 : Byte).toNat ≤ 200) ∧
      ((0 : Byte).toNat ≤ 199 ∧ 1 ≤ (200 : Byte).toNat ∧ (0 : Byte).toNat + (200 : Byte).toNat ≤ 200) ∧
      ¬ ((199 : Byte).toNat + (2 : Byte).toNat ≤ 200) ∧ ¬ (1 ≤ (0 : Byte).toNat) :=
  ⟨ready_canAnswer, rfl, by decide⟩

/-- Of `BoardKeyWritesTheOverride`: a board in each state that takes a key, with no record, the station's own, and the other
station's; the least and the greatest trim. -/
theorem witness_boardKey :
    (∀ x ∈ [BoardState.assembling, .solving, .solved],
      let s := selecting [boardIn 9200 x] 9200
      s.Attentive ∧ (s.station .a).lineCount < 8 ∧ (s.station .a).buffer = [] ∧ (s.station .a).discard = false ∧
        (s.station .a).selection = some 9200 ∧ s.board? 9200 = some (boardIn 9200 x) ∧ (boardIn 9200 x).state = x ∧
        (boardIn 9200 x).window .a = .isOpen) ∧
      (0 + 3 ≤ 3 ∧ 7 + 3 ≤ 10) ∧ (∀ y ∈ ((boardIn 9200 .solved).segments.drop 2).take (2 * 6 - 2 * 1), y.coverage = .full) ∧
      (let b := { boardIn 9200 .solved with override := some { owner := .b, grade := some 5, trim := none, chip := false } }
       (selecting [b] 9200).Attentive ∧ (selecting [b] 9200).board? 9200 = some b ∧
         ((selecting [b] 9200).station .b).lineCount < 8) := by
  refine ⟨?_, by decide, by decide, ⟨rfl, rfl⟩, rfl, by decide⟩
  intro x _
  cases x <;> exact ⟨⟨rfl, rfl⟩, by decide, rfl, rfl, rfl, rfl, rfl, rfl⟩

/-- Of `RefusedKeyChangesNothing`: no selection and no last board; a last board; a board past its commit; a trim over segment
16; eight lines queued; STARTING; records that fail a check. -/
theorem witness_refusedKey :
    (ready.Attentive ∧ (ready.station .a).selection = none ∧ (ready.station .a).last = none) ∧
      (let s := ready.setStationA { ready.stationA with last := some 9202 }
       s.Attentive ∧ (s.station .a).last.isSome = true) ∧
      (let s := selecting [boardIn 9200 .committed] 9200
       s.Attentive ∧ s.board? 9200 = some (boardIn 9200 .committed)) ∧
      (let s := selecting [boardIn 9200 .solved] 9200
       s.Attentive ∧ (boardIn 9200 .solved).window .a = .isOpen ∧
         ∃ y ∈ ((boardIn 9200 .solved).segments.drop 2).take (2 * 9 - 2 * 1), y.coverage ≠ .full) ∧
      (let s := ready.setStationA { ready.stationA with output := List.replicate 8 (.reply .ok), sending := true }
       s.Settled ∧ s.power = .ready ∧ 8 ≤ (s.station .a).lineCount) ∧
      (let s := ready.setPower (.starting .reset)
       s.Settled ∧ s.power = .starting .reset) ∧
      (parseRecord (textOf ['H', ' ', '6', ' ', '5']) = none ∧ (textOf ['H', ' ', '6', ' ', '5']).length ≤ 32 ∧
        ∀ b ∈ textOf ['H', ' ', '6', ' ', '5'], stationChar b = true) :=
  ⟨⟨ready_attentive, rfl, rfl⟩, ⟨⟨rfl, rfl⟩, rfl⟩, ⟨⟨rfl, rfl⟩, rfl⟩, ⟨⟨rfl, rfl⟩, rfl, by decide⟩,
    ⟨rfl, rfl, by decide⟩, ⟨rfl, rfl⟩, by decide⟩

/-- Of `SelectOlderAndRefreshKeys`: an older board that is open, with a closed one between; and no older one. -/
theorem witness_selectOlder :
    let y := boardIn 9200 .solved
    let m := { boardIn 9201 .solved with windowA := .closed }
    let z := boardIn 9202 .solved
    let s := selecting ([] ++ y :: [m] ++ z :: []) 9202
    s.Attentive ∧ (s.station .a).lineCount < 8 ∧ (s.station .a).buffer = [] ∧ (s.station .a).discard = false ∧
      (s.station .a).selection = some z.lug ∧ y.window .a = .isOpen ∧ (∀ k ∈ [m], k.window .a ≠ .isOpen) ∧
      (∀ k ∈ y :: [m], k.lug ≠ z.lug) ∧
      (let s := selecting ([m] ++ z :: []) 9202
       s.Attentive ∧ ∀ k ∈ [m], k.lug ≠ z.lug ∧ k.window .a ≠ .isOpen) :=
  ⟨⟨rfl, rfl⟩, by decide, rfl, rfl, rfl, rfl, by decide, by decide, ⟨rfl, rfl⟩, by decide⟩

/-- Of `KeyCharactersActAsTheKey`: each key at the least and greatest values of its fields. -/
theorem witness_keyCharacters :
    ready.Attentive ∧ (ready.station .b).buffer = [] ∧ (ready.station .b).discard = false ∧
      ∀ k ∈ [Key.gradeMark 1, .gradeMark 5, .trimMark 0 3, .trimMark 7 10, .chip, .release, .older, .hold 1 0, .hold 5 99999,
        .cancel, .refresh], k.inRange = true :=
  ⟨ready_attentive, rfl, rfl, by decide⟩

/-- Of `AcceptanceEmptiesThePresentedSlot`. -/
theorem witness_acceptance (m : Handshake) :
    let s := onTheLines m
    s.Attentive ∧ s.trimmer.mode = m ∧ s.trimmer.phase = .on ∧
      s.trimmer.presented = some { lug := 7001, mask := 0x1C2, again := false } ∧
      s.board? 7001 = some (boardIn 7001 .committed) ∧ (boardIn 7001 .committed).decision = some workedDecision :=
  ⟨⟨rfl, rfl⟩, rfl, rfl, rfl, rfl, rfl⟩

/-- Of `AckAndGapEndTheRecovery`: READY, RECOVERING in both modes, with a decision waiting, with none, and with the line
stopped. -/
theorem witness_recovery (m : Handshake) :
    (ready.Attentive ∧ ready.trimmer.mode = .interlocked ∧ ready.trimmer.phase = .ready) ∧
      (let s := recovering m
       s.Attentive ∧ s.trimmer.mode = m ∧ s.trimmer.phase = .recovering ∧ s.trimmer.onLines = false ∧
         s.trimmer.presented.isSome = true ∧ s.chain.line = .running) ∧
      (let s := (recovering m).setTrimmer { (recovering m).trimmer with presented := none }
       s.Attentive ∧ s.trimmer.presented = none) ∧
      (let s := (recovering m).setChain { ready.chain with line := .stopped }
       s.Attentive ∧ s.chain.line = .stopped) :=
  ⟨⟨ready_attentive, rfl, rfl⟩, ⟨⟨rfl, rfl⟩, rfl, rfl, rfl, rfl, rfl⟩, ⟨⟨rfl, rfl⟩, rfl⟩, ⟨rfl, rfl⟩, rfl⟩

/-- Of `StrobesCarryTheSortCodes`: a strobe, a gap with a strobe waiting and without; each row of the table of R143. -/
theorem witness_strobes :
    strobing.Attentive ∧ strobing.sorter.strobe = .strobing { bin := 12, stamp := 3 } 20 ∧
      (let s := strobing.setSorter { strobing.sorter with strobe := .gap 20 }
       s.Attentive ∧ s.sorter.strobe = .gap 20 ∧ s.sorter.waiting = some { bin := 31, stamp := 7 }) ∧
      (let s := ready.setSorter { ready.sorter with strobe := .gap 20 }
       s.Attentive ∧ s.sorter.waiting = none) ∧
      (BoardState.missed ≠ .accepted ∧ workedDecision.piece = some workedPiece ∧ workedPiece.key.grade ≠ 6 ∧
        strobing.sorter.bins = [] ++ (workedPiece.key, 12) :: [] ∧ (∀ e ∈ ready.sorter.bins, e.1 ≠ workedPiece.key)) :=
  ⟨⟨rfl, rfl⟩, rfl, ⟨⟨rfl, rfl⟩, rfl, rfl⟩, ⟨⟨rfl, rfl⟩, rfl⟩, by decide⟩

/-- Of `EveryStepKeepsTheTrimmerLines`: a decision on the lines, and one that waits. -/
theorem witness_trimmer (m : Handshake) : (onTheLines m).TrimmerOk ∧ (recovering m).TrimmerOk :=
  ⟨⟨fun _ => rfl, fun _ => ⟨rfl, rfl, rfl, _, rfl, rfl⟩, fun h => absurd (h : true = false) nofun⟩,
    ⟨fun _ => rfl, fun h => absurd (h : false = true) nofun, fun _ => ⟨(nofun : Phase.recovering ≠ .on), rfl⟩⟩⟩

/-- A tally with bins. -/
def tallying (bins : List TallyBin) : LiveTally :=
  { LiveTally.empty with body := { LiveTally.empty.body with bins := bins } }

/-- The bin of the worked key at a width. -/
def workedBin (width : Nat) : TallyBin :=
  { key := workedKey, width := width, pieces := { value := 1, saturated := false },
    twelfths := { value := 20 * width, saturated := false } }

/-- Of `TallyCountersAndBins`: a bin of the key at its width and at another; no bin of the key with 255 held and with 256. -/
theorem witness_tally :
    (tallying [workedBin 6]).body.bins = [] ++ workedBin 6 :: [] ∧ (workedBin 6).key = workedPiece.key ∧
      (workedBin 6).width = workedPiece.width ∧ (workedBin 4).width ≠ workedPiece.width ∧
      (∀ k ∈ (tallying (List.replicate 255 { workedBin 6 with key := { workedKey with grade := 3 } })).body.bins,
        k.key ≠ workedPiece.key) ∧
      (tallying (List.replicate 255 (workedBin 6))).body.bins.length < 256 ∧
      256 ≤ (tallying (List.replicate 256 (workedBin 6))).body.bins.length := by decide +kernel

/-- Of `OrderRequestsKeepTheTable`: a target of 0 and a key of grade 0; a new key with 31 orders held and with 32; a new target
of 420 for an OPEN order, and of 421; an order that is FILLED. -/
theorem witness_orders :
    (ordering [openOrder]).CanAnswer ∧ orderFields (keyBytes ++ [0, 0, 0, 0, 0, 1, 80]) = none ∧
      orderFields (keyBytes ++ [0, 0, 0, 1, 0xA4, 1, 80]) = some { key := workedKey, target := 420, action := .discount 80 } ∧
      cancelKey [0x34, 0x21] = none ∧ cancelKey keyBytes = some workedKey ∧
      (∀ n ∈ [31, 32], let s := ordering (List.replicate n { openOrder with key := { workedKey with grade := 3 } })
        ∀ o ∈ s.tally.orders, o.key ≠ workedKey) ∧
      ((ordering (List.replicate 31 openOrder)).tally.orders.length < 32 ∧
        32 ≤ (ordering (List.replicate 32 openOrder)).tally.orders.length) ∧
      ((ordering [openOrder]).tally.orders = [] ++ openOrder :: [] ∧ openOrder.state = .isOpen ∧ 420 ≤ openOrder.filled.value ∧
        openOrder.filled.value < 421 ∧ { openOrder with state := OrderState.filled }.state = .filled) := by
  refine ⟨⟨⟨rfl, rfl⟩, by decide⟩, ?_⟩
  decide +kernel

/-- Of `BinRequestsKeepTheTable`: a selector of 2; the default bin 30; a key with bin 29, in the table, outside it with 31
entries and with 32. -/
theorem witness_bins :
    strobing.CanAnswer ∧ binSetFields ([2] ++ keyBytes ++ [12]) = none ∧ binClearFields ([2] ++ keyBytes) = none ∧
      binSetFields ([1] ++ keyBytes ++ [30]) = some (.default 30) ∧ binClearFields ([1] ++ keyBytes) = some .default ∧
      binSetFields ([0] ++ keyBytes ++ [29]) = some (.key workedKey 29) ∧
      binClearFields ([0] ++ keyBytes) = some (.key workedKey) ∧
      strobing.sorter.bins = [] ++ (workedKey, 12) :: [] ∧ (∀ e ∈ ready.sorter.bins, e.1 ≠ workedKey) ∧
      (List.replicate 31 (workedKey, 12)).length < 32 ∧ 32 ≤ (List.replicate 32 (workedKey, 12)).length := by
  refine ⟨⟨⟨rfl, rfl⟩, by decide⟩, ?_⟩
  decide +kernel

/-- Of `PeriodsCloseAndReadBack`: the warning; a full queue and one with room; period 0, the current one, a queued one, a
kept one, and one that is nowhere. -/
theorem witness_periods :
    (let s := ready.setStore { ready.store with warned := true }
     s.CanAnswer ∧ s.store.warned = true) ∧
      (let s := storing [.checkpoint, .relocate, .relocate, .relocate] none
       s.CanAnswer ∧ s.store.warned = false ∧ 4 ≤ s.store.queue.length) ∧
      (let s := storing [.checkpoint, .relocate, .relocate] none
       s.CanAnswer ∧ s.store.queue.length < 4) ∧
      ([0, 0, 0, 0, 1] : List Byte).length = 5 ∧ tallyPart [0, 1, 0, 0, 1] 2 = some (.product 0 1) ∧
      (let s := (storing [.period emptyPeriod] none).setTally { ready.tally with period := 2 }
       s.CanAnswer ∧ s.store.queue.filterMap StoreOp.periodRecord? = [] ++ emptyPeriod :: [] ∧ 1 ≠ s.tally.period) ∧
      (let x : StoreRecord := .written (.period emptyPeriod) 3
       let s := (ready.setStore { ready.store with blocks := [{ Block.blank with records := [x] }] }).setTally
         { ready.tally with period := 2 }
       s.CanAnswer ∧ s.store.keptRecords 1 = [x] ∧ s.store.keptRecords 3 = []) :=
  ⟨⟨⟨⟨rfl, rfl⟩, by decide⟩, rfl⟩, ⟨⟨⟨rfl, rfl⟩, by decide⟩, rfl, by decide⟩, ⟨⟨⟨rfl, rfl⟩, by decide⟩, by decide⟩,
    by decide, by decide, ⟨⟨⟨rfl, rfl⟩, by decide⟩, rfl, by decide⟩, ⟨⟨⟨rfl, rfl⟩, by decide⟩,
      by simp [Store.keptRecords, validRecords, keptPeriod, StoreRecord.periodRecord?, Config.periodsKept, emptyPeriod, List.filter_cons],
      by simp [Store.keptRecords, validRecords, keptPeriod, StoreRecord.periodRecord?, Config.periodsKept, emptyPeriod, List.filter_cons]⟩⟩

/-- Of `ReadRequestsChangeNothing`: the last value entry, and 64 bins from 255. -/
theorem witness_reads :
    ready.CanAnswer ∧ ((199 : Byte).toNat ≤ 199 ∧ 1 ≤ (1 : Byte).toNat ∧ (199 : Byte).toNat + (1 : Byte).toNat ≤ 200) ∧
      (1 ≤ (64 : Byte).toNat ∧ (64 : Byte).toNat ≤ 64) :=
  ⟨ready_canAnswer, by decide⟩

/-- Of `EveryStepKeepsTheProductTally`. -/
theorem witness_productTally :
    (ready.setTally { ready.tally with live := tallying [workedBin 6] }).ProductTallyOk := by
  refine ⟨⟨by decide, by decide, by decide⟩, ?_, ?_⟩
  · intro b hb r hr
    rw [ready_blocks b hb] at hr
    exact absurd hr List.not_mem_nil
  · intro f w c hf
    exact absurd (hf : (none : Option InFlight) = some f) nofun

/-- A settings write in flight, at the front of the queue. -/
def settingsFlight (newStatic : Bool) : State :=
  storing [.settings Settings.builtIn] (some (writing (.settings Settings.builtIn) newStatic))

/-- Of `StoreWriteCompletes`: each operation in flight, a store with none, and a new STATIC block beside the former one. -/
theorem witness_storeWrite :
    (ready.powered = true ∧ ready.Settled ∧ ready.store.inFlight = none) ∧
      (storing [.checkpoint] (some (writing (.checkpoint emptyCheckpoint) false))).Settled ∧
      (storing [.period emptyPeriod] (some (writing (.period emptyPeriod) false))).Settled ∧
      (storing [.relocate] (some (writing (.settings Settings.builtIn) false))).Settled ∧
      ((settingsFlight false).powered = true ∧ (settingsFlight false).Settled ∧
        (writing (.settings Settings.builtIn) false).write.map FlashWrite.newStatic = some false) ∧
      ((settingsFlight true).Settled ∧ (settingsFlight true).store.blocks[1]? = some Block.blank ∧
        (settingsFlight true).store.staticBlock ≠ some 1) :=
  ⟨⟨rfl, rfl, rfl⟩, rfl, rfl, rfl, ⟨rfl, rfl, rfl⟩, rfl, rfl, by decide⟩

/-- Of `ReclaimEraseEmptiesTheBlock`. -/
theorem witness_reclaim :
    let s := ready.setStore { ready.store with erasing := some 3 }
    s.powered = true ∧ s.Settled ∧ s.store.erasing = some 3 ∧ s.store.blocks[3]? = some Block.blank :=
  ⟨rfl, rfl, rfl, rfl⟩

/-- Of `PowerFailWarningAsksForACheckpoint`: NORMAL with an idle store, WARNED, and STARTING. -/
theorem witness_powerFail :
    (ready.Attentive ∧ ready.store.warned = false ∧ ready.store.queue = [] ∧ ready.store.inFlight = none ∧
      ready.store.erasing = none ∧ ready.store.conditionFull = false) ∧
      (ready.setStore { ready.store with warned := true }).Attentive ∧ State.reset.power = .starting .powerOn :=
  ⟨⟨ready_attentive, rfl, rfl, rfl, rfl, rfl⟩, ⟨rfl, rfl⟩, rfl⟩

/-- Of `CutTearsTheRecordInFlight`: a record in flight, and none. -/
theorem witness_cut :
    (ready.powered = true ∧ ready.store.erasing = none ∧ ready.store.inFlight.bind InFlight.write = none) ∧
      (let s := storing [.checkpoint] (some (writing (.checkpoint emptyCheckpoint) false))
       s.powered = true ∧ s.store.erasing = none ∧
         (s.store.inFlight.bind InFlight.write).map FlashWrite.newStatic = some false) :=
  ⟨⟨rfl, rfl, rfl⟩, rfl, rfl, rfl⟩

/-- Of `StartTakesTheNewestSettings`: a flash with a settings record in its STATIC block. -/
theorem witness_start :
    let s := ready.setStore { ready.store with
      blocks := [{ Block.blank with role := .static, records :=
        [.written (.settings { Settings.builtIn with width := 30 }) 9] }, Block.blank] }
    (∀ b ∈ s.store.blocks, b.headerOk = true) ∧ (s.setPower .off).power = .off ∧
      (newestSettings s.store.blocks).map StoreRecord.seq = some 9 := by
  refine ⟨by decide, rfl, ?_⟩
  simp [newestSettings, validRecords, Block.blank, newestOf, StoreRecord.isSettings, List.filter_cons]

/-- Of `StartingEndsWithTheReadyNotice`: without the vision module and with it. -/
theorem witness_startingEnd :
    (State.reset.power = .starting .powerOn ∧ State.reset.trimmer.phase = .ready ∧ State.reset.scan.vision = .absent) ∧
      (after (.resetRelease true) (ready.setPower .resetHeld)).scan.vision = .contextPending := by decide +kernel

/-- Of `EveryStepKeepsAValidCheckpoint`: a checkpoint in the first block, ACTIVE, of a store of two. -/
theorem witness_checkpoint :
    let b : Block := { Block.blank with state := .active, records :=
      [.written (.checkpoint emptyCheckpoint) 1] }
    (ready.setStore { ready.store with blocks := [b, Block.blank] }).CheckpointSafe := by
  intro b
  have hb : b.HasCheckpoint := ⟨_, List.mem_singleton.2 rfl, StoreRecord.valid_written _ _, rfl⟩
  have hn : ¬ Block.blank.HasCheckpoint := by rintro ⟨r, hr, -⟩; exact absurd hr List.not_mem_nil
  have hcases : ∀ x ∈ [b, Block.blank], x = b ∨ x = Block.blank := by simp
  refine ⟨⟨0, b, rfl, hb, by decide⟩, ⟨?_, ?_⟩, fun _ => ⟨?_, ?_, ?_, ?_, ?_, ?_⟩, fun h => absurd h (by decide)⟩
  · intro x hx h
    rcases hcases x hx with rfl | rfl
    · exact ⟨rfl, rfl⟩
    · exact absurd h hn
  · intro x hx _ _
    rcases hcases x hx with rfl | rfl <;> decide
  · intro x hx h
    rcases hcases x hx with rfl | rfl
    · exact .inl rfl
    · exact absurd h hn
  · intro x hx h
    rcases hcases x hx with rfl | rfl
    · exact ⟨rfl, rfl⟩
    · exact absurd h (by decide)
  · intro x hx h
    rcases hcases x hx with rfl | rfl <;> exact absurd h (by decide)
  · intro i x hx h
    rcases hcases x (List.mem_of_getElem? hx) with rfl | rfl
    · exact absurd h (by decide)
    · exact ⟨rfl, .inl ⟨rfl, rfl⟩⟩
  · intro i x h
    exact absurd (h : (none : Option Nat) = some i) nofun
  · intro f w h
    exact absurd (h : (none : Option InFlight) = some f) nofun

/-- Of `WatchRequestsAndCaptureRead`: slots 0, 3 and 4; MISSED at SOLVE; captures held, and none. -/
theorem witness_watch :
    ready.CanAnswer ∧ ready.watch.captures = [] ∧ captured.CanAnswer ∧
      captured.watch.captures.map Capture.lug = [8101, 8102] ∧
      (watchFields [3, 0, 0, 0, 57, 1, 0, 1, 0]).map Prod.fst = some 3 ∧ watchFields [4, 0, 0, 0, 57, 1, 0, 1, 0] = none ∧
      watchFields [0, 4, 0, 0, 0, 0, 0, 1, 0] = none ∧ ([3] : List Byte).length = 1 ∧
      ¬ 3 < (([3] : List Byte).getD 0 0).toNat ∧ 3 < (([4] : List Byte).getD 0 0).toNat :=
  ⟨ready_canAnswer, rfl, ⟨⟨rfl, rfl⟩, by decide⟩, by decide, by decide, by decide, by decide, by decide, by decide, by decide⟩

/-- A processor with replies queued. -/
def replying (n : Nat) : State :=
  ready.setLink { ready.link with
    replies := List.replicate n { type := 1, tag := 0, code := .accepted, data := [] }, sending := some .reply }

/-- Of `FramesAreRefusedInOrder`: four replies, and three; STARTING; types 00h, 01h, 1Bh and 1Ch; a body that is too long. -/
theorem witness_frames :
    ((replying 4).powered = true ∧ (replying 4).Settled ∧ 4 ≤ (replying 4).link.replies.length) ∧
      ((replying 3).Settled ∧ ¬ 4 ≤ (replying 3).link.replies.length) ∧
      (State.reset.powered = true ∧ State.reset.Settled ∧ State.reset.power ≠ .ready) ∧
      (¬ 1 ≤ (0 : Byte).toNat ∧ ¬ (0x1C : Byte).toNat ≤ 0x1B ∧ (0x1B : Byte).toNat ≤ 0x1B) ∧
      ¬ lengthAllowed 0x1B [0] :=
  ⟨⟨rfl, rfl, by decide⟩, ⟨rfl, by decide⟩, ⟨rfl, rfl, by decide⟩, by decide, fun h => absurd (h.1 (by decide)) (by decide)⟩

/-- Of `SaveSettingsQueuesTheImage`: the warning; a retrigger option of 2; a change of mode with the port occupied; a full queue;
and the greatest values. -/
theorem witness_saveSettings :
    (ready.setStore { ready.store with warned := true }).CanAnswer ∧
      (ready.CanAnswer ∧ ready.store.warned = false ∧ ready.store.queue.length < 4) ∧
      (¬ (2 : Byte).toNat ≤ 1 ∧ (1 : Byte).toNat ≤ 1 ∧ 1 ≤ (255 : Byte).toNat) ∧
      ((onTheLines .interlocked).CanAnswer ∧ Handshake.pulsed ≠ (onTheLines .interlocked).trimmer.mode ∧
        (onTheLines .interlocked).trimmer.presented.isSome = true) ∧
      (storing [.checkpoint, .relocate, .relocate, .relocate] none).CanAnswer :=
  ⟨⟨⟨rfl, rfl⟩, by decide⟩, ⟨ready_canAnswer, rfl, by decide⟩, by decide, ⟨⟨⟨rfl, rfl⟩, by decide⟩, by decide, rfl⟩,
    ⟨rfl, rfl⟩, by decide⟩

/-- A processor that sends a notice, with more behind it. -/
def noticing (more : List Notice) : State :=
  ready.setLink { ready.link with notices := .lineStopped 5 :: more, sending := some (.notice 7) }

/-- Of `SendersTakeTheOldestNext`: the last reply, and one with another behind it; the last notice, and one with a BOARD REPORT
behind it; a station line. -/
theorem witness_senders :
    ((replying 1).powered = true ∧ (replying 1).Settled ∧ (replying 1).link.sending = some .reply) ∧
      ((replying 2).Settled ∧ (replying 2).link.replies.length = 2) ∧
      ((noticing []).Settled ∧ (noticing []).link.sending = some (.notice 7)) ∧
      (noticing [.boardReport ((boardIn 7001 .missed).report { bin := 31, stamp := 7 })]).Settled ∧
      (let s := after (.refreshKey .b) ready
       s.Settled ∧ (s.station .b).output.length = 2) :=
  ⟨⟨rfl, rfl, rfl⟩, ⟨rfl, rfl⟩, ⟨rfl, rfl⟩, rfl, rfl, by decide +kernel⟩

/-- Of `DiscardedFrameIsCounted`: a wrong check, a length of 1025, and a part of the frame. -/
theorem witness_discardedFrame :
    (ready.powered = true ∧ ready.Settled ∧ ready.link.framer = Framer.hunt) ∧ (longBody.take 1024).length ≤ 1024 ∧
      (0 : BitVec 16) ≠ crc16 (frameContent 0x01 0x5A []) ∧ 1024 < 256 * (4 : Byte).toNat + (1 : Byte).toNat ∧
      frameContent 0x01 0x5A [] = [0, 0] ++ [0x01, 0x5A] :=
  ⟨⟨rfl, rfl, rfl⟩, by decide +kernel, by decide +kernel, by decide, by decide⟩

/-- Of `FrameCharactersActAsTheRequest`. -/
theorem witness_frameCharacters :
    ready.powered = true ∧ ready.Settled ∧ ready.link.framer.receiving = false ∧ (longBody.take 1024).length ≤ 1024 :=
  ⟨rfl, rfl, rfl, by decide +kernel⟩

/-- Of `EveryStepKeepsTheQueuesBounded`: every queue at its capacity. -/
theorem witness_queues :
    let capture : Capture := { slot := 0, point := .report, lug := 1, board := boardIn 1 .missed }
    (((replying 4).setWatch { ready.watch with captures := List.replicate 8 capture }).setStationA
      { ready.stationA with output := List.replicate 8 (.reply .ok) }).QueuesBounded := by
  refine ⟨by decide, by decide, by decide, by decide, by decide, by decide⟩

/-! ### The further clauses of the statements -/

/-- Of `LogScanRecordCreatesLog`, with the queue full: sixteen logs of which the oldest alone has its id. -/
theorem witness_logScan_full :
    let rest := List.replicate 15 (logIn 2 .scanned 0 0)
    let s := sawing (logIn 1 .draining 4 1 :: rest)
    s.Attentive ∧ s.logs.queue = logIn 1 .draining 4 1 :: rest ∧ 16 ≤ s.logs.queue.length ∧
      (∀ x ∈ rest, x.id ≠ (logIn 1 .draining 4 1).id) ∧ ∃ d ∈ ([0, 120] : List Half).map BitVec.toNat, d ≠ 0 :=
  ⟨⟨rfl, rfl⟩, rfl, by decide, by decide, by decide⟩

/-- Of the fill: stations without a reading between two that have one, before the first and after the last. -/
theorem witness_fill :
    fillStations [0, 120, 0, 0, 111, 0] = [120, 120, 115, 115, 111, 111] ∧ 2 ≤ [120, 111].length := by decide

/-- The boards of log 41 at the close of a window. -/
def closing (log : Log) : State :=
  (assembling.setLogs { ready.logs with queue := [log] }).setTrack
    { assembling.track with boards := [boardIn 7310 .assembling] }

/-- Of `WindowCloseSettlesTheBoard`: a SAWING log, a CUT log with room for two boards and for one, and a full one; the solver
idle and with a solve in progress; a watched module that answered, one that has not, and one that has not for the third time;
a frame with a FAULT status; the current lug with a board at the boundary. -/
theorem witness_windowClose_more :
    (∀ l ∈ [logIn 41 .sawing 4 4, { logIn 41 .cut 4 4 with announced := some 6 }, { logIn 41 .cut 5 5 with announced := some 6 }],
      ((l.state = .sawing ∧ l.seen < 65535) ∨ (l.state = .cut ∧ ∃ n, l.announced = some n ∧ l.seen < n)) ∧
        (closing l).board? 7310 = some (boardIn 7310 .assembling) ∧ (closing l).logs.queue = [] ++ l :: []) ∧
      (logIn 41 .draining 6 6).state = .draining ∧
      (ready.solver.inProgress = none ∧ ready.solver.queue = []) ∧
      (solving.solver.inProgress.isSome = true ∧ ∀ e ∈ solving.solver.queue, e.1 ≠ 7311) ∧
      (assembling.scan.vision = .online ∧ assembling.scan.answered = false ∧ ¬ 3 ≤ assembling.scan.misses + 1) ∧
      3 ≤ ({ assembling.scan with misses := 2 } : Assembler).misses + 1 ∧
      ({ assembling.scan with answered := true } : Assembler).answered = true ∧
      (let f : DefectFrame := { tag := 142, head := 0x0B, context := 17, status := 1, entries := List.replicate 22 0 }
       f.status ≠ 0) ∧
      (assembling.scan.currentLug = some 7310 ∧ assembling.scan.boardPresent = true) := by
  refine ⟨?_, rfl, ⟨rfl, rfl⟩, ⟨rfl, by decide⟩, ⟨rfl, rfl, by decide⟩, by decide, rfl, by decide, rfl, rfl⟩
  intro l hl
  simp only [List.mem_cons, List.not_mem_nil, or_false] at hl
  rcases hl with rfl | rfl | rfl
  · exact ⟨.inl ⟨rfl, by decide⟩, rfl, rfl⟩
  · exact ⟨.inr ⟨rfl, 6, rfl, by decide⟩, rfl, rfl⟩
  · exact ⟨.inr ⟨rfl, 6, rfl, by decide⟩, rfl, rfl⟩

/-- Of `LugEventsMoveTheBoard`: a selection on the board with another board OPEN and with none, and a selection elsewhere; the
sort of a board with slots armed. -/
theorem witness_lugEvents_more :
    (let s := selecting [boardIn 9200 .solved, boardIn 9201 .solved] 9201
     s.board? 9201 = some (boardIn 9201 .solved) ∧ (s.station .a).selection = some 9201 ∧
       s.track.boards = [] ++ boardIn 9200 .solved :: [boardIn 9201 .solved] ∧
       (boardIn 9200 .solved).window .a = .isOpen ∧ (boardIn 9200 .solved).lug ≠ 9201 ∧
       ∀ k ∈ [boardIn 9201 .solved], ¬ (k.lug ≠ 9201 ∧ k.window .a = .isOpen)) ∧
      (let s := selecting [boardIn 9201 .solved] 9201
       (s.station .a).selection = some 9201 ∧ ∀ k ∈ s.track.boards, ¬ (k.lug ≠ 9201 ∧ k.window .a = .isOpen)) ∧
      ((selecting [boardIn 9200 .solved, boardIn 9201 .solved] 9200).station .a).selection ≠ some 9201 ∧
      (let s := (holding [boardIn 7001 .accepted]).setWatch (after (.watchSet 1 [0, 0, 0, 0, 57, 2, 0, 1, 0]) ready).watch
       s.board? 7001 = some (boardIn 7001 .accepted) ∧ ∃ w ∈ s.watch.slots, w.state = .armed) :=
  ⟨⟨rfl, rfl, rfl, rfl, by decide, by decide⟩, ⟨rfl, by decide⟩, by decide, by decide +kernel⟩

/-- A board of a log. -/
def boardOf (lug : Lug) (state : BoardState) (id : Nat) : Board := { boardIn lug state with logId := some id }

/-- Of `ClearLineLosesEveryBoard`: a DRAINING log that loses its last two boards, one that saws and loses one, one that loses
none; each has at least the boards pending that it loses. -/
theorem witness_clearLine_logs :
    let s := (holding [boardOf 7001 .solved 41, boardOf 7002 .assembling 41, boardOf 7003 .committed 42,
        boardOf 7004 .missed 43, boardIn 7005 .solving]).setLogs { ready.logs with
      queue := [logIn 41 .draining 4 2, logIn 42 .sawing 3 2, logIn 43 .draining 2 1] }
    let lost := s.track.boards.filter fun b => b.state ≠ .accepted ∧ b.state ≠ .missed
    s.CanAnswer ∧ (s.track.boards.map Board.lug).Nodup ∧ (s.logs.queue.map Log.id).Nodup ∧
      (s.logs.queue.map fun l => (lost.filter fun b => b.logId = some l.id).length) = [2, 1, 0] ∧
      s.logs.queue.map Log.pending = [2, 2, 1] :=
  ⟨⟨⟨rfl, rfl⟩, by decide⟩, by decide, by decide, by decide, by decide⟩

/-- Of `OpenRunPlacesTheRunFrame`, with a run open, HOLD frames present, the vision module absent and fitted. -/
theorem witness_openRun_more :
    let s := holdingFrames [holdOf .a 3 1 false, holdOf .b 2 2 false]
    s.CanAnswer ∧ s.solver.run.isSome = true ∧ (openFields (openBody 4)).isSome = true ∧ s.scan.vision = .absent ∧
      (s.setScan { s.scan with vision := .offline }).CanAnswer :=
  ⟨⟨⟨rfl, rfl⟩, by decide⟩, rfl, by decide +kernel, rfl, ⟨rfl, rfl⟩, by decide⟩

/-- Of `NewestFrameGivesTheLimit`: a request that an idle solver takes, and a solve in progress with its board in SOLVING. -/
theorem witness_newestFrame_more :
    (let s := (holding [boardIn 7310 .solving]).setSolver { running.solver with queue := [(7310, .first)] }
     s.solver.inProgress = none ∧ s.solver.queue = (7310, .first) :: [] ∧
       s.board? 7310 = some (boardIn 7310 .solving)) ∧
      (solving.Attentive ∧ solving.solver.inProgress.map Solve.lug = some 7310 ∧
        solving.board? 7310 = some (boardIn 7310 .solving)) :=
  ⟨⟨rfl, rfl, rfl⟩, ⟨rfl, rfl⟩, rfl, rfl⟩

/-- Of `HoldKeyCreatesOrRetriggers`: two SOLVED boards short of mark A, one at it; the solver idle, and busy with a third
board. -/
theorem witness_holdKey_more :
    let s := (holding [boardIn 994 .solved, boardIn 995 .solved, boardIn 996 .solved]).setChain { ready.chain with lug := 1000 }
    s.Attentive ∧ s.frames.run.isSome = true ∧ s.frames.holds = [] ∧ (s.track.boards.map Board.lug).Nodup ∧
      (s.track.boards.filter fun b => b.state = .solved ∧ (s.chain.lug - b.lug).toNat < s.chain.config.markA) =
        boardIn 995 .solved :: [boardIn 996 .solved] ∧
      (s.solver.inProgress = none ∧ s.solver.queue = []) ∧
      (let t := s.setSolver solving.solver
       t.Attentive ∧ t.solver.inProgress.map Solve.lug = some 7310 ∧ t.solver.queue = []) :=
  ⟨⟨rfl, rfl⟩, rfl, rfl, by decide, by decide, ⟨rfl, rfl⟩, ⟨rfl, rfl⟩, rfl, rfl⟩

/-- Of `SegmentGradesAndSawMask`: a segment of a solve. -/
theorem witness_gradeSegments : (workedInput none).segments[2]? = some (woodSegment .full 54 180) := by decide

/-- The worked trim is of class 2 and raw grade 2. -/
theorem worked_classed : (workedInput none).Classed workedRun 1 6 2 := by
  refine ⟨by decide, by decide, by decide +kernel, ?_⟩
  intro k h1 h2
  obtain rfl : k = 3 := by
    have : k ≤ 3 := h2
    omega
  decide +kernel

theorem worked_raw : (workedInput none).RawGrade 1 6 2 := by
  refine ⟨by decide, by decide, ?_, ?_⟩
  · exact ⟨by decide +kernel, by decide +kernel, ⟨_, 2, rfl, rfl, by decide⟩, _, 2, rfl, rfl, by decide⟩
  · intro k h1 h2 hq
    obtain rfl : k = 1 := by omega
    obtain ⟨x, k, hx, hk, hle⟩ := hq.2.2.1
    rw [show ((workedInput none).kept 1 6).head? = some { woodSegment .full 54 180 with grade := some 2 } by
      decide +kernel] at hx
    obtain rfl := Option.some.inj hx
    obtain rfl : 2 = k := Option.some.inj hk
    exact absurd hle (by decide)

theorem worked_graded : (workedInput none).Graded workedRun 1 6 2 2 :=
  ⟨by decide, by decide, by decide +kernel, worked_classed, 2, worked_raw, by decide +kernel⟩

/-- Of `ChosenPieceIsSound`: the worked piece is one of the eligible trims, at its own score. -/
theorem witness_chosenPiece_offers :
    (workedInput none).run = some workedRun ∧ (workedInput none).noScan = false ∧
      (workedInput none).Offers workedRun 1 6 2 2 62400 := by
  have hfilled : ∀ key action, ¬ (workedInput none).FilledUnder key action := fun _ _ ⟨_, h, _⟩ => absurd h nofun
  exact ⟨rfl, rfl, worked_graded, by decide +kernel, hfilled _ _, fun _ => by decide +kernel, fun _ h => absurd h (hfilled _ _)⟩

/-- A committed board of a log on the lines, with orders. -/
def accepting (log : Log) (orders : List Order) : State :=
  (((onTheLines .interlocked).setTrack { running.track with boards := [boardOf 7001 .committed 41] }).setLogs
    { ready.logs with queue := [log] }).setTally { ready.tally with orders := orders }

/-- Of `AcceptanceEmptiesThePresentedSlot`: no order of the key, and one that the piece fills (its volume is 120); a log that
stays, a DRAINING one with one board pending, and no log of the board's id; a chip. -/
theorem witness_acceptance_more :
    (∀ l ∈ [logIn 41 .sawing 4 2, logIn 41 .draining 4 1, logIn 42 .draining 4 1],
      (accepting l []).Attentive ∧ (accepting l []).board? 7001 = some (boardOf 7001 .committed 41)) ∧
      (let s := accepting (logIn 41 .draining 4 1) [openOrder]
       s.logs.queue = [] ++ logIn 41 .draining 4 1 :: [] ∧ s.tally.orders = [] ++ openOrder :: [] ∧
         openOrder.key = workedPiece.key ∧ openOrder.state = .isOpen ∧
         openOrder.target ≤ (openOrder.filled.add10 120).value) ∧
      (accepting (logIn 42 .draining 4 1) []).logs.queue.any (fun l => some 41 = some l.id) = false ∧
      (boardOf 7001 .committed 41).decision = some workedDecision := by
  refine ⟨?_, ⟨rfl, rfl, rfl, rfl, by decide⟩, by decide, rfl⟩
  intro l _
  exact ⟨⟨rfl, rfl⟩, rfl⟩

/-- Of `StrobesCarryTheSortCodes`: a sort event with the port idle, with a strobe alone, and with another waiting. -/
theorem witness_strobes_more :
    (holding [boardIn 7001 .accepted]).board? 7001 = some (boardIn 7001 .accepted) ∧
      (holding [boardIn 7001 .missed]).board? 7001 = some (boardIn 7001 .missed) ∧ ready.sorter.strobe = .idle ∧
      (let x := { strobing.sorter with waiting := none }
       x.strobe ≠ .idle ∧ x.waiting = none) ∧
      (strobing.sorter.strobe ≠ .idle ∧ strobing.sorter.waiting.isSome = true) ∧
      exec (.clearLine 1 []) strobing = .next (after (.clearLine 1 []) strobing) :=
  ⟨rfl, rfl, rfl, by decide, by decide, rfl⟩

/-- Of `ReadRequestsChangeNothing`: ranges that are bad, parts that are not 0 or 1, counts of 0 and 65. -/
theorem witness_reads_more :
    ¬ ((199 : Byte).toNat + (2 : Byte).toNat ≤ 200) ∧ 1 < (2 : Byte).toNat ∧ (0 : Byte) = 0 ∧ 64 < (65 : Byte).toNat := by
  decide

/-- A store of one FULL block and one STATIC block, that begins an operation. -/
def filled (queue : List StoreOp) (flight : Option InFlight) : State :=
  let s := storing queue flight
  s.setStore { s.store with
    blocks := [{ Block.blank with state := .full }, { Block.blank with role := .static, state := .static }] }

/-- Of `StoreWriteCompletes`: operations that begin with no room, and that complete unwritten. -/
theorem witness_storeWrite_more :
    (∀ op ∈ [StoreOp.checkpoint, .period emptyPeriod],
      let s := filled [op] none
      s.store.inFlight = none ∧ s.store.erasing = none ∧ s.store.queue = op :: [] ∧
        (∀ b ∈ s.store.blocks, b.state ≠ .free) ∧ ∀ b ∈ s.store.blocks, b.state ≠ .active) ∧
      ∀ op ∈ [StoreOp.checkpoint, .period emptyPeriod, .settings Settings.builtIn],
        let s := filled [op] (some { write := none })
        s.powered = true ∧ s.Settled ∧ s.store.queue = op :: [] ∧ s.store.inFlight = some { write := none } ∧
          s.store.deferred = false := by
  constructor
  · intro op _
    refine ⟨rfl, rfl, rfl, ?_, ?_⟩ <;> intro b hb <;>
      rcases (List.mem_pair.1 hb : _ ∨ _) with rfl | rfl <;> decide
  · intro op _
    exact ⟨rfl, rfl, rfl, rfl, rfl⟩

/-- Of `ReclaimEraseEmptiesTheBlock`: a FULL block behind the one that is erased, and one before it with another reclaim asked
for. -/
theorem witness_reclaim_more :
    let full := { Block.blank with state := BlockState.full }
    (let s := ready.setStore { ready.store with blocks := [full, full], erasing := some 0 }
     s.powered = true ∧ s.Settled ∧ s.power = .ready ∧ s.store.reclaimAgain = false ∧
       (s.store.blocks.set 0 Block.blank)[1]? = some full ∧ reclaimable (s.store.blocks.set 0 Block.blank) full = true) ∧
      (let s := ready.setStore { ready.store with blocks := [full, full], erasing := some 1, reclaimAgain := true }
       s.store.reclaimAgain = true ∧ reclaimable (s.store.blocks.set 1 Block.blank) full = true) :=
  ⟨⟨rfl, rfl, rfl, rfl, rfl, by decide +kernel⟩, rfl, by decide +kernel⟩

/-- Of `PowerFailWarningAsksForACheckpoint`: a request that joins one waiting, one that finds the queue full, one dropped by a
FULL condition with and without an erase in progress, one behind an operation in flight, and one for an idle store. -/
theorem witness_checkpointRequest :
    (.checkpoint ∈ (storing [.relocate, .checkpoint] none).store.queue) ∧
      (let s := storing [.checkpoint, .relocate, .relocate, .relocate] (some { write := none })
       .checkpoint ∉ s.store.queue.tail ∧ 4 ≤ s.store.queue.length) ∧
      (let s := filled [] none
       let f := s.setStore { s.store with conditionFull := true }
       f.store.conditionFull = true ∧ f.store.erasing = none ∧
         f.store.blocks[0]? = some { Block.blank with state := .full } ∧
         reclaimable f.store.blocks { Block.blank with state := .full } = true ∧
         ({ f.store with erasing := some 0 } : Store).erasing.isSome = true) ∧
      (let s := storing [.checkpoint] (some { write := none })
       .checkpoint ∉ s.store.queue.tail ∧ s.store.queue.length < 4 ∧ s.store.inFlight.isSome = true) ∧
      (ready.store.queue = [] ∧ ready.store.inFlight = none ∧ ready.store.erasing = none ∧
        ready.store.conditionFull = false) :=
  ⟨by decide, by decide, ⟨rfl, rfl, rfl, by decide +kernel, rfl⟩, by decide, rfl, rfl, rfl, rfl⟩

/-- A flash: an unreadable header, the newest settings, older settings, an empty journal block, journal blocks that hold the
newest checkpoint and an older one, all valid. -/
def worn : List Block :=
  let record := StoreRecord.written
  [{ Block.blank with headerOk := false },
   { Block.blank with eraseCount := 9, role := .static, records := [record (.settings Settings.builtIn) 9] },
   { Block.blank with role := .static, records := [record (.settings Settings.builtIn) 3] }, Block.blank,
   { Block.blank with records := [record (.checkpoint emptyCheckpoint) 12] },
   { Block.blank with records := [record (.checkpoint emptyCheckpoint) 11] }]

/-- Its newest valid settings record. -/
theorem test_worn_settings :
    newestSettings (readHeaders worn) = some (.written (.settings Settings.builtIn) 9) ∧
      newestSettings (readHeaders (worn.take 5)) = some (.written (.settings Settings.builtIn) 9) := by
  simp [newestSettings, validRecords, readHeaders, worn, Block.blank, newestOf, StoreRecord.isSettings, List.filter_cons]

/-- The store restored from that flash. -/
theorem test_worn_restore :
    restoreStore worn = { Store.initial
      [{ Block.blank with eraseCount := 9 },
       { Block.blank with eraseCount := 9, role := .static, state := .static,
                          records := [.written (.settings Settings.builtIn) 9] },
       { Block.blank with eraseCount := 1 }, Block.blank,
       { Block.blank with state := .active, records := [.written (.checkpoint emptyCheckpoint) 12] },
       { Block.blank with state := .full, records := [.written (.checkpoint emptyCheckpoint) 11] }] with nextSeq := 13 } := by
  have table : settleStatic (readHeaders worn) =
      [{ Block.blank with eraseCount := 9 },
       { Block.blank with eraseCount := 9, role := .static, state := .static,
                          records := [.written (.settings Settings.builtIn) 9] },
       { Block.blank with eraseCount := 1 }, Block.blank,
       { Block.blank with records := [.written (.checkpoint emptyCheckpoint) 12] },
       { Block.blank with records := [.written (.checkpoint emptyCheckpoint) 11] }] := by
    simp [settleStatic, test_worn_settings]
    simp [readHeaders, worn, Block.blank, Block.holdsSettings, StoreRecord.isSettings, Block.erased, highestReadable]
  simp only [restoreStore, table]
  rfl

/-- A flash of two torn checkpoints, the later one's block first. -/
def tornFlash : List Block :=
  let torn := fun seq => { StoreRecord.written (.checkpoint emptyCheckpoint) seq with mark := false }
  [{ Block.blank with records := [torn 12] }, { Block.blank with records := [torn 11] }]

/-- Of `StartTakesTheNewestSettings`: the table restored from the worn flash, with the older checkpoint's block to reclaim; a
flash with nothing to reclaim; the last erase of a start; period records past the checkpoint's period and not. -/
theorem witness_start_more :
    ((restoreStore worn).blocks.map fun b => (b.state, b.eraseCount)) =
        [(.free, 9), (.static, 9), (.free, 1), (.free, 0), (.active, 0), (.full, 0)] ∧
      (restoreStore worn).nextSeq = 13 ∧ (restoreStore worn).nextReclaim 0 = some 5 ∧
      ((restoreStore (worn.take 5)).nextReclaim 0 = none ∧ (restoreStore (worn.take 5)).relocationWanted = false) ∧
      (let s := after (.powerOn true) ((ready.setPower .off).setStore { ready.store with blocks := tornFlash })
       s.power = .starting .powerOn ∧ s.start.restored = false ∧ s.store.erasing = some 1 ∧
         (after (.reclaimEraseDone false) s).store.erasing = none ∧
         (after (.reclaimEraseDone false) s).start.restored = true) ∧
      (1 = (65535 - 1 + 1) % 65535 + 1 ∧ 41 = (41 - 1 + 0) % 65535 + 1) := by
  refine ⟨by rw [test_worn_restore]; decide, by rw [test_worn_restore], ?_, ⟨?_, ?_⟩, by decide +kernel, by decide⟩
  · rw [test_worn_restore]
    simp [Store.nextReclaim, reclaimable, Store.initial, Block.blank, List.findIdx?_cons, neededRecord, newestCheckpoint,
      validRecords, newestOf, StoreRecord.isCheckpoint, List.filter_cons]
  · simp only [restoreStore, settleStatic, test_worn_settings]
    simp [Store.nextReclaim, reclaimable, Store.initial, readHeaders, worn, settleJournal, highestReadable, Block.erased,
      Block.journalHeld, Block.holdsSettings, StoreRecord.isSettings, Block.blank, List.findIdx?_cons, highestSeq]
    decide +kernel
  · simp only [restoreStore, settleStatic, test_worn_settings]
    simp [Block.holdsSettings, readHeaders, worn, Block.blank, StoreRecord.isSettings]
    decide +kernel

/-- The sender part of that start: it is settled. -/
theorem witness_start_settled :
    (after (.powerOn true) ((ready.setPower .off).setStore { ready.store with blocks := tornFlash })).Settled := rfl

/-- Of `StartingEndsWithTheReadyNotice`: a restore that is done, and one that is not. -/
theorem witness_startingEnd_more :
    State.reset.start.restored = true ∧
      (after (.resetRelease true) ((ready.setPower .resetHeld).setStore { ready.store with blocks := tornFlash })).start.restored =
        false := by decide +kernel

/-- Of `WatchRequestsAndCaptureRead`: a slot that a board meets at its point, with the capture asked for and room for it, with
eight captures held, and not asked for; a board that does not meet it. -/
theorem witness_watchHit :
    let s := ((holding [boardOf 8101 .committed 57]).setWatch
      (after (.watchSet 1 [0, 0, 0, 0, 57, 1, 0, 1, 0]) ready).watch)
    s.board? 8101 = some (boardOf 8101 .committed 57) ∧ (boardOf 8101 .committed 57).watchHits.getD 0 false = false ∧
      (boardOf 8101 .committed 57).meets (.log 57) = true ∧ (boardOf 8101 .committed 58).meets (.log 57) = false ∧
      ((s.watch.slots.map fun w => (w.state, w.program)) = [(.armed,
          some { condition := .log 57, point := .commit, scope := .localRun, capture := true, oneShot := false }),
        (.empty, none), (.empty, none), (.empty, none)] ∧ s.watch.captures = []) ∧
      8 ≤ (List.replicate 8 (Capture.mk 0 .commit 8101 (boardIn 8101 .committed))).length := by decide +kernel

/-- Of `SendersTakeTheOldestNext`: 64 notices with a report behind the one that is sent, and with none. -/
theorem witness_notices :
    let report := Notice.boardReport ((boardIn 7001 .missed).report { bin := 31, stamp := 7 })
    64 ≤ ([Notice.lineStopped 5] ++ report :: List.replicate 62 (.lineStopped 6)).length ∧
      64 ≤ (List.replicate 64 (Notice.lineStopped 6)).length ∧
      (∀ y ∈ List.replicate 64 (Notice.lineStopped 6), ∀ r, y ≠ .boardReport r) ∧ 1 ≤ [Notice.lineStopped 5].length := by
  refine ⟨by decide, by decide, ?_, by decide⟩
  intro y hy r h
  rw [List.eq_of_mem_replicate hy] at h
  cases h

/-! ### Witnesses of the clauses on single forms -/

/-- Of `LineStopsAndResumes`: a decision on the lines in either mode with one staged behind it, younger and older. -/
theorem witness_lineStop_slots (m : Handshake) :
    let s := fun lug => let t := onTheLines m
      (t.setChain { t.chain with lug := 7010 }).setTrimmer { t.trimmer with staged := some { lug := lug, mask := 0x1C2, again := false } }
    (s 7002).Attentive ∧ (s 7002).chain.line = .running ∧ (s 7002).trimmer.onLines = true ∧
      (s 7002).trimmer.presented.map Slot.lug = some 7001 ∧
      ¬ ((7010 - 7001 : Lug).toNat < (7010 - 7002 : Lug).toNat) ∧
      (s 7000).Attentive ∧ (7010 - 7001 : Lug).toNat < (7010 - 7000 : Lug).toNat :=
  ⟨⟨rfl, rfl⟩, rfl, rfl, rfl, by decide, ⟨rfl, rfl⟩, by decide⟩

/-- Of `WindowCloseSettlesTheBoard`: a FAULT frame held with a score of 16 for segment 21. -/
theorem witness_windowClose_fault :
    let f : DefectFrame := { tag := 142, head := 0x0B, context := 17, status := 1, entries := List.replicate 21 0x8F ++ [0x90] }
    let s := (assembling.setScan { assembling.scan with held := some f }).setTrack
      { assembling.track with boards := [boardIn 7310 .assembling] }
    s.board? 7310 = some (boardIn 7310 .assembling) ∧ s.scan.held = some f ∧ f.status ≠ 0 ∧
      ∃ e ∈ f.entries.take 22, 15 < e.toNat % 128 := by decide +kernel

/-- The fields of OPEN RUN as `OpenRunPlacesTheRunFrame` writes them: the body's length and the ranges. -/
def goodOpen (body : List Byte) : Bool × Bool :=
  let byte := fun n => (body.getD n 0).toNat
  let k := byte 4
  let e := byte (6 + 3 * k)
  let number := 256 * byte 0 + byte 1
  let classes := (List.range k).map fun n => (byte (5 + 3 * n), 256 * byte (6 + 3 * n) + byte (7 + 3 * n))
  let carried := (List.range e).map fun n => (byte (7 + 3 * k + 2 * n), byte (8 + 3 * k + 2 * n))
  (decide (body.length = 7 + 3 * k + 2 * e),
    decide (1 ≤ number ∧ byte 2 ≤ 15 ∧ 1 ≤ byte 3 ∧ byte 3 ≤ 4 ∧ 1 ≤ k ∧ k ≤ 5 ∧
      (∀ c ∈ classes, c.1 % 2 = 0 ∧ 2 ≤ c.1 ∧ c.1 ≤ 16 ∧ c.2 ≤ 511) ∧ (classes.map Prod.snd).Pairwise (· < ·) ∧
      byte (5 + 3 * k) ≤ 1 ∧ e ≤ 16 ∧ (∀ x ∈ carried, x.1 ≤ 26) ∧ (carried.map Prod.fst).Nodup))

/-- Of `OpenRunPlacesTheRunFrame`: every field at its least, every field at its greatest with 16 entries of limits 11 to 26, a
thickness of 5, and 17 entries. -/
theorem witness_openRun_fields :
    let entries := fun n : Nat => (List.range n).flatMap fun k => [BitVec.ofNat 8 (26 - k), 255]
    goodOpen [0, 1, 0, 1, 1, 2, 0, 0, 0, 0] = (true, true) ∧
      goodOpen ([255, 255, 15, 4, 5, 16, 0, 1, 16, 0, 2, 16, 0, 3, 16, 0, 4, 16, 1, 255, 1, 16] ++ entries 16) =
        (true, true) ∧
      goodOpen (openBody 5) = (true, false) ∧ goodOpen ([0, 1, 0, 1, 1, 2, 0, 0, 0, 17] ++ entries 17) = (true, false) := by
  decide +kernel

/-- Of `OpenRunPlacesTheRunFrame` and `CloseRunRemovesTheFrames`: an ARMED LOCAL slot and an ARMED GLOBAL one, with a run open. -/
theorem witness_closeRun_watch :
    let s := running.setWatch (after (.watchSet 1 [1, 0, 0, 0, 57, 1, 1, 1, 0])
      (after (.watchSet 1 [0, 0, 0, 0, 57, 1, 0, 1, 0]) ready)).watch
    s.CanAnswer ∧ s.solver.run.isSome = true ∧ (s.watch.slots.map fun w => (w.state, w.program.map WatchProgram.scope)) =
      [(.armed, some .localRun), (.armed, some .global), (.empty, none), (.empty, none)] :=
  ⟨⟨⟨rfl, rfl⟩, by decide⟩, rfl, by decide +kernel⟩

/-- Of `HoldFrameLeavesTheChain`: a station that owns no frame, with no run open and beside a frame of the other station. -/
theorem witness_cancelHold_none :
    (∀ s ∈ [ready, holdingFrames [holdOf .b 2 2 false]], (s.station .a).lineCount < 8 ∧ (s.station .a).buffer = [] ∧
        (s.station .a).discard = false ∧ ∀ h ∈ s.frames.holds, h.owner ≠ .a) ∧
      ready.Attentive ∧ (holdingFrames [holdOf .b 2 2 false]).Attentive :=
  ⟨by decide, ready_attentive, rfl, rfl⟩

/-- The worked solve under a trim mark. -/
def marking (p q : Nat) : SolveInput :=
  workedInput (some { owner := .a, grade := none, trim := some (p, q), chip := false })

/-- Of `ChosenPieceIsSound`, its other paths: NO_SCAN with a run and with none, no run, the chip mark, and a trim mark over wood that
is not all FULL. -/
theorem witness_solve_paths :
    (decisionOf { workedInput none with noScan := true } .first).flags.noRun = false ∧
      (decisionOf { workedInput none with noScan := true, run := none } .first).flags.noRun = true ∧
      (decisionOf { workedInput none with run := none } .hold).flags.noRun = true ∧
      (decisionOf (workedInput (some { owner := .b, grade := some 4, trim := some (1, 6), chip := true })) .first).piece = none ∧
      ((∃ y ∈ (marking 6 9).kept 6 9, y.coverage ≠ .full) ∧
        (decisionOf (marking 6 9) .first).piece = some workedPiece) := by decide +kernel

/-- Of `ChosenPieceIsSound`, the trim mark over FULL wood: its wood has a class, a raw grade and no cull. -/
theorem witness_trimMark :
    (marking 1 6).run = some workedRun ∧ (marking 1 6).noScan = false ∧ (∀ y ∈ (marking 1 6).kept 1 6, y.coverage = .full) ∧
      (marking 1 6).Classed workedRun 1 6 2 ∧ (marking 1 6).RawGrade 1 6 2 ∧
      (∀ y ∈ (marking 1 6).kept 1 6, y.grade ≠ some 6) ∧
      (decisionOf (marking 1 6) .override).piece = some workedPiece ∧
      (decisionOf (marking 1 6) .override).score = (marking 1 6).fullScore workedRun workedKey :=
  ⟨rfl, rfl, by decide +kernel, worked_classed, worked_raw, by decide +kernel, by decide +kernel, by decide +kernel⟩

/-- The trim mark over wood too narrow for the least class, and over cull (R109). -/
theorem witness_trimMark_worthless :
    (let i : SolveInput := { marking 1 6 with segments := List.replicate 22 (woodSegment .full 54 111) }
     (∀ y ∈ i.kept 1 6, y.coverage = .full) ∧ ((i.kept 1 6).map Segment.width).foldl min 511 < 112 ∧
       (decisionOf i .first).piece.map (fun x => (x.p, x.q, x.key.widthClass)) = some (1, 6, 1) ∧
       (decisionOf i .first).score = 0) ∧
      (let i : SolveInput := { marking 1 6 with segments := List.replicate 22 (woodSegment .full 43 180) }
       (∀ y ∈ i.kept 1 6, y.coverage = .full ∧ y.grade = some 6) ∧
         (decisionOf i .first).piece.map (fun x => (x.p, x.q, x.key.grade)) = some (1, 6, 6) ∧
         (decisionOf i .first).score = 0) := by decide +kernel

/-- An order of the worked key, FILLED. -/
def filledOrder (action : OrderAction) : Order := { openOrder with state := .filled, action := action }

/-- Of `ChosenPieceIsSound`, its flags: the worked key at an ABSENT, a WITHDRAWN and a PRESENT entry; under a FILLED order that
excludes it, one that discounts it by 0, by 80 and by 100 of 100, and under none. -/
theorem witness_decisionFlags :
    (∀ st, (({ marking 1 6 with values := List.replicate 200 { state := st, value := 9 } } : SolveInput).entryAt workedKey).state =
        st) ∧
      (∀ action, ({ marking 1 6 with orders := [filledOrder action] } : SolveInput).FilledUnder workedKey action) ∧
      (∀ action, ¬ (marking 1 6).FilledUnder workedKey action) ∧
      (decisionOf { marking 1 6 with values := [] } .first).flags.noPrice = true ∧
      (decisionOf { marking 1 6 with orders := [filledOrder .exclude] } .first).flags.orderExcluded = true ∧
      ([0, 80, 100].map fun n => (decisionOf { marking 1 6 with orders := [filledOrder (.discount n)] } .first).score) =
        [0, 49920, 62400] := by
  refine ⟨fun st => by cases st <;> rfl, fun _ => ⟨_, rfl, rfl, rfl⟩, fun _ ⟨_, h, _⟩ => absurd h nofun, ?_⟩
  decide +kernel

/-- The two bytes of a key at its least and its greatest fields are Proper; a grade of 0 or 7 and a class of 6 are not (R144). -/
theorem witness_properKey :
    wireKey 0x35 0x21 = workedKey ∧ workedKey.Proper ∧ (wireKey 0x00 0x80).Proper ∧ (wireKey 0xFF 0x74).Proper ∧
      ¬ (wireKey 0x00 0x00).Proper ∧ ¬ (wireKey 0x03 0x80).Proper ∧ ¬ (wireKey 0x35 0x25).Proper := by
  unfold ProductKey.Proper
  decide

/-- Of `OrderRequestsKeepTheTable`: the least target with EXCLUDE, the greatest with DISCOUNT 100, and each bound passed. -/
theorem witness_orders_fields :
    let good := fun body : List Byte =>
      let byte := fun n => (body.getD n 0).toNat
      let target := (((byte 2 * 256 + byte 3) * 256 + byte 4) * 256 + byte 5) * 256 + byte 6
      decide (body.length = 9 ∧ 1 ≤ target ∧ target ≤ 9999999999 ∧ (byte 7 = 0 ∨ (byte 7 = 1 ∧ byte 8 ≤ 100)))
    good (keyBytes ++ [0, 0, 0, 0, 1, 0, 255]) = true ∧ good (keyBytes ++ [0x02, 0x54, 0x0B, 0xE3, 0xFF, 1, 100]) = true ∧
      good (keyBytes ++ [0, 0, 0, 0, 0, 1, 80]) = false ∧ good (keyBytes ++ [0x02, 0x54, 0x0B, 0xE4, 0x00, 1, 80]) = false ∧
      good (keyBytes ++ [0, 0, 0, 1, 0, 2, 80]) = false ∧ good (keyBytes ++ [0, 0, 0, 1, 0, 1, 101]) = false := by decide

/-- Of `BinRequestsKeepTheTable`: bins 1 and 29 of a key, 1 and 30 of the default, and the selector and bins past them. -/
theorem witness_bins_fields :
    let good := fun body : List Byte =>
      let byte := fun n => (body.getD n 0).toNat
      decide ((byte 0 = 0 ∧ 1 ≤ byte 3 ∧ byte 3 ≤ 29) ∨ (byte 0 = 1 ∧ 1 ≤ byte 3 ∧ byte 3 ≤ 30))
    ([[0] ++ keyBytes ++ [1], [0] ++ keyBytes ++ [29], [1, 0, 0, 1], [1, 0, 0, 30]].map good) = List.replicate 4 true ∧
      ([[0] ++ keyBytes ++ [0], [0] ++ keyBytes ++ [30], [1, 0, 0, 31], [2, 0, 0, 1]].map good) = List.replicate 4 false := by
  decide

/-- The ranges of WATCH SET as `WatchRequestsAndCaptureRead` writes them, but for a key. -/
def goodWatch (body : List Byte) : Bool :=
  let byte := fun n => (body.getD n 0).toNat
  let operand := 256 * byte 3 + byte 4
  decide (body.length = 9 ∧ byte 0 ≤ 3 ∧
    ((byte 1 = 0 ∧ byte 2 = 0 ∧ 1 ≤ operand) ∨ (byte 1 = 1 ∧ byte 2 = 0) ∨ (byte 1 = 2 ∧ byte 2 = 0 ∧ 1 ≤ operand ∧ operand ≤ 6) ∨
      (byte 1 = 3 ∧ byte 2 = 0 ∧ operand ≤ 2) ∨ byte 1 = 4 ∨ byte 1 = 5 ∨
      (byte 1 = 6 ∧ operand < 512 ∧ byte 2 < 32 ∧ (0 < operand ∨ 0 < byte 2))) ∧
    byte 5 ≤ 2 ∧ byte 6 ≤ 1 ∧ byte 7 ≤ 1 ∧ byte 8 ≤ 1 ∧ ¬ (byte 1 = 4 ∧ byte 5 = 0))

/-- Of `WatchRequestsAndCaptureRead`: the least and greatest fields of each condition, FLAGS of one flag and of all 14; each bound
passed. -/
theorem witness_watch_fields :
    (∀ body ∈ [[0, 0, 0, 0, 1, 0, 0, 0, 0], [3, 0, 0, 255, 255, 2, 1, 1, 1], [3, 1, 0, 0xFF, 0x74, 0, 0, 0, 0],
        [0, 2, 0, 0, 1, 0, 0, 0, 0], [0, 2, 0, 0, 6, 0, 0, 0, 0], [0, 3, 0, 0, 0, 0, 0, 0, 0], [0, 3, 0, 0, 2, 0, 0, 0, 0],
        [0, 4, 9, 9, 9, 1, 0, 0, 0], [0, 5, 9, 9, 9, 0, 0, 0, 0], [3, 6, 0, 0, 1, 2, 1, 1, 1], [3, 6, 1, 0, 0, 2, 1, 1, 1],
        [3, 6, 31, 1, 255, 2, 1, 1, 1]],
      goodWatch body = true ∧ (after (.watchSet 1 body) ready).watch.slots.map WatchSlot.state ≠ List.replicate 4 .empty) ∧
    ∀ body ∈ [[4, 0, 0, 0, 1, 0, 0, 0, 0], [0, 0, 0, 0, 0, 0, 0, 0, 0], [0, 0, 1, 0, 1, 0, 0, 0, 0],
        [0, 2, 0, 0, 7, 0, 0, 0, 0], [0, 3, 0, 0, 3, 0, 0, 0, 0], [0, 4, 0, 0, 0, 0, 0, 0, 0], [0, 7, 0, 0, 1, 0, 0, 0, 0],
        [3, 6, 0, 0, 0, 2, 1, 1, 1], [3, 6, 32, 0, 1, 2, 1, 1, 1], [3, 6, 0, 2, 0, 2, 1, 1, 1], [0, 5, 0, 0, 0, 3, 0, 0, 0],
        [0, 5, 0, 0, 0, 1, 2, 0, 0], [0, 5, 0, 0, 0, 1, 0, 2, 0], [0, 5, 0, 0, 0, 1, 0, 0, 2]],
      goodWatch body = false ∧ codes (after (.watchSet 1 body) ready) = [.outOfRange] := by
  refine ⟨?_, ?_⟩ <;> decide +kernel

/-- Of `PeriodsCloseAndReadBack` and `SaveSettingsQueuesTheImage`, the checkpoint asked for: an idle store; a checkpoint that waits
behind the operation in flight; a queue that the request fills; condition FULL, and not. -/
theorem witness_askedBehind :
    (ready.CanAnswer ∧ ready.store.queue = [] ∧ ready.store.warned = false) ∧
      (let s := storing [.relocate, .checkpoint] (some { write := none })
       s.CanAnswer ∧ s.store.inFlight.isSome = true ∧ .checkpoint ∈ s.store.queue.tail) ∧
      (let s := storing [.checkpoint, .relocate, .relocate] (some { write := none })
       s.CanAnswer ∧ .checkpoint ∉ s.store.queue.tail ∧ 4 ≤ (s.store.queue ++ [StoreOp.period emptyPeriod]).length) ∧
      (let s := storing [.checkpoint] (some { write := none })
       let f := s.setStore { s.store with conditionFull := true }
       s.CanAnswer ∧ f.CanAnswer ∧ .checkpoint ∉ s.store.queue.tail ∧
         (s.store.queue ++ [StoreOp.period emptyPeriod]).length < 4 ∧ s.store.conditionFull = false ∧ f.store.conditionFull = true) :=
  ⟨⟨ready_canAnswer, rfl, rfl⟩, ⟨⟨⟨rfl, rfl⟩, by decide⟩, rfl, by decide⟩, ⟨⟨⟨rfl, rfl⟩, by decide⟩, by decide, by decide⟩,
    ⟨⟨rfl, rfl⟩, by decide⟩, ⟨⟨rfl, rfl⟩, by decide⟩, by decide, by decide, rfl, rfl⟩

/-- Of `CutTearsTheRecordInFlight`: a block being erased; a record in a new STATIC block beside the former one, and with none. -/
theorem witness_cut_more :
    (let s := ready.setStore { ready.store with erasing := some 3 }
     s.powered = true ∧ s.store.erasing = some 3) ∧
      (let s := settingsFlight true
       let t := s.setStore { s.store with blocks := { Block.blank with role := .static, state := .static } :: s.store.blocks }
       s.powered = true ∧ s.store.staticBlock = none ∧ t.powered = true ∧ t.store.staticBlock = some 0 ∧
         (t.store.inFlight.bind InFlight.write).map FlashWrite.newStatic = some true) :=
  ⟨⟨rfl, rfl⟩, rfl, by decide, rfl, by decide, rfl⟩

/-- A trimmer slot of a lug. -/
def slotOf (lug : Lug) : Slot := { lug := lug, mask := 0x1C2, again := false }

/-- Of `LugEventsMoveTheBoard`, the table of R131: lug 7001 SOLVED at its commit, with both slots empty and the line running, and
stopped; a presented decision that is ON; one that waits, of a younger and of an older board; both slots full. -/
theorem witness_commit_table :
    let s := fun t : Trimmer => (holding [boardIn 7001 .solved]).setTrimmer t
    let now := fun x : State => x.setChain { x.chain with lug := 7010 }
    (∀ t, (s t).board? 7001 = some (boardIn 7001 .solved)) ∧ (boardIn 7001 .solved).decision = some workedDecision ∧
      ((s ready.trimmer).trimmer.presented = none ∧ (s ready.trimmer).trimmer.staged = none ∧
        (s ready.trimmer).trimmer.phase = .ready ∧ (s ready.trimmer).chain.line = .running ∧
        (stoppedLine false ready.trimmer).chain.line ≠ .running) ∧
      ((onTheLines .pulsed).trimmer.onLines = true ∧ (onTheLines .pulsed).trimmer.staged = none) ∧
      ((now (s { (recovering .pulsed).trimmer with presented := some (slotOf 7002) })).trimmer.onLines = false ∧
        (7010 - 7002 : Lug).toNat < (7010 - 7001 : Lug).toNat ∧ ¬ (7010 - 7000 : Lug).toNat < (7010 - 7001 : Lug).toNat) ∧
      (let t : Trimmer := { (onTheLines .pulsed).trimmer with presented := some (slotOf 7000), staged := some (slotOf 7002) }
       (s t).trimmer.presented = some (slotOf 7000) ∧ (s t).trimmer.staged.isSome = true ∧ (s t).trimmer.onLines = true) :=
  ⟨fun _ => rfl, rfl, ⟨rfl, rfl, rfl, rfl, by decide⟩, ⟨rfl, rfl⟩, ⟨rfl, by decide, by decide⟩, rfl, rfl, rfl⟩

/-- Of `LugEventsMoveTheBoard`, the table of R136: lug 7001's decision on the lines in either mode with one staged, waiting, and
staged. -/
theorem witness_deadline_table (m : Handshake) :
    (let s := (onTheLines m).setTrimmer { (onTheLines m).trimmer with staged := some (slotOf 7002) }
     s.board? 7001 = some (boardIn 7001 .committed) ∧ s.trimmer.presented.map Slot.lug = some 7001 ∧ s.trimmer.onLines = true ∧
       s.trimmer.staged.isSome = true) ∧
      ((recovering m).board? 7001 = some (boardIn 7001 .committed) ∧
        (recovering m).trimmer.presented.map Slot.lug = some 7001 ∧ (recovering m).trimmer.onLines = false) ∧
      (let s := (onTheLines m).setTrimmer { (onTheLines m).trimmer with
         presented := some (slotOf 7000), staged := some (slotOf 7001) }
       s.board? 7001 = some (boardIn 7001 .committed) ∧ s.trimmer.presented.map Slot.lug ≠ some 7001 ∧
         s.trimmer.staged.map Slot.lug = some 7001) :=
  ⟨⟨rfl, rfl, rfl, rfl⟩, ⟨rfl, rfl, rfl⟩, rfl, by cases m <;> decide, rfl⟩

/-- Of `TallyCountersAndBins`, a MISSED result: a board of no log and one whose log has closed; logs that saw, that drain with two
boards pending, and that drain with one. -/
theorem witness_missed :
    (∀ b ∈ [boardIn 7001 .missed, boardOf 7001 .missed 40], ∀ l ∈ (sawing [logIn 41 .sawing 4 1]).logs.queue,
        b.logId ≠ some l.id) ∧
      (∀ l ∈ [logIn 41 .sawing 4 1, logIn 41 .draining 4 2, logIn 41 .draining 4 1],
        (boardOf 7001 .missed 41).logId = some l.id ∧ ∀ k ∈ [logIn 40 .draining 1 1] ++ [logIn 42 .scanned 0 0], k.id ≠ l.id) ∧
      ((logIn 41 .draining 4 2).state = .draining ∧ 2 ≤ (logIn 41 .draining 4 2).pending ∧ (logIn 41 .draining 4 1).pending ≤ 1) := by
  decide

/-- A checkpoint of 256 bins: eight of them leave a block 256 bytes. -/
def greatRecord : StoreRecord :=
  .written (.checkpoint { emptyCheckpoint with live := tallying (List.replicate 256 (workedBin 6)) }) 1

/-- Of `StoreWriteCompletes`, where a journal record begins: the ACTIVE block with room; one without and the least worn FREE blocks,
two of them; no ACTIVE block. -/
theorem witness_journalPlace :
    let active := fun n => { Block.blank with state := BlockState.active, records := List.replicate n greatRecord }
    let free := fun n => { Block.blank with eraseCount := n }
    let body := StoreBody.period emptyPeriod
    (let s := storing [.period emptyPeriod] none
     s.store.inFlight = none ∧ s.store.erasing = none ∧ s.store.queue = .period emptyPeriod :: []) ∧
      (active 0).used + recordSpace (bodyBytes body) ≤ Config.blockBytes ∧
      ¬ (active 8).used + recordSpace (bodyBytes body) ≤ Config.blockBytes ∧
      (let blocks := [free 9, active 8, free 3, free 3]
       blocks[1]? = some (active 8) ∧ (active 8).state = .active ∧ (∀ k x, k < 1 → blocks[k]? = some x → x.state ≠ .active) ∧
         blocks[2]? = some (free 3) ∧ (free 3).state = .free ∧
         ∀ k x, blocks[k]? = some x → x.state = .free → 3 < x.eraseCount ∨ (3 = x.eraseCount ∧ 2 ≤ k)) ∧
      ∀ x ∈ [free 9, free 3], x.state ≠ .active := by
  refine ⟨⟨rfl, rfl, rfl⟩, by decide +kernel, by decide +kernel, ⟨rfl, rfl, ?_, rfl, rfl, ?_⟩, by decide⟩
  · intro k x hk hx
    obtain rfl : k = 0 := by omega
    cases hx
    decide
  · intro k x hx _
    match k, hx with
    | 0, hx => cases hx; decide
    | 1, hx => cases hx; exact absurd ‹_› (by decide)
    | 2, hx => cases hx; decide
    | 3, hx => cases hx; decide
    | k + 4, hx => exact absurd hx (by simp)

/-- Of `StoreWriteCompletes`, where a settings record and a relocation's copy go: the STATIC block with room and without; the most
worn FREE block; a block worn 201 times more than the STATIC one, and 200 times; the newest valid settings record. -/
theorem witness_staticPlace :
    let image := StoreBody.settings Settings.builtIn
    let record : StoreRecord := .written image 9
    let static := fun n => { Block.blank with role := .static, state := .static, records := List.replicate n record }
    let kept : Block := { static 0 with records := [{ record with seq := 3 }, record] }
    (∀ op ∈ [StoreOp.settings Settings.builtIn, .relocate], (storing [op] none).store.inFlight = none ∧
        (storing [op] none).store.erasing = none ∧ (storing [op] none).store.queue = op :: []) ∧
      (static 0).used + recordSpace (bodyBytes image) ≤ Config.blockBytes ∧
      ¬ (static 508).used + recordSpace (bodyBytes image) ≤ Config.blockBytes ∧
      (let blocks := [kept, { Block.blank with eraseCount := 201 }]
       blocks[0]? = some kept ∧ kept.state = .static ∧ (∃ x ∈ blocks, kept.eraseCount + 200 < x.eraseCount) ∧
         (∃ y ∈ blocks, record ∈ y.records) ∧ record.valid = true ∧
         ∀ y ∈ blocks, ∀ o ∈ y.records, o.valid = true → o.isSettings = true → o ≠ record → o.seq.toNat < record.seq.toNat) ∧
      (∀ x ∈ [kept, { Block.blank with eraseCount := 200 }], x.eraseCount ≤ kept.eraseCount + 200) ∧
      ∀ x ∈ [kept, { Block.blank with eraseCount := 201, state := .full }], x.state ≠ .free := by
  refine ⟨by decide, by decide +kernel, by decide +kernel, ⟨rfl, rfl, by decide, ⟨_, .head _, .tail _ (.head _)⟩,
    StoreRecord.valid_written _ _, ?_⟩, by decide, by decide⟩
  intro y hy o ho _ _ hne
  rcases List.mem_pair.1 hy with rfl | rfl
  · rcases List.mem_pair.1 ho with rfl | rfl
    · decide
    · exact absurd rfl hne
  · exact absurd ho List.not_mem_nil

/-- Of `StoreWriteCompletes`, the test of R166: a relocation wanted with a FREE block, a queue of three and of four, and a checkpoint
deferred. -/
theorem witness_relocationTest :
    let static := { Block.blank with role := BlockRole.static, state := BlockState.static }
    let x : Store := { (storing [.checkpoint, .checkpoint, .checkpoint] none).store with
      blocks := [static, { Block.blank with eraseCount := 201 }] }
    x.blocks[0]? = some static ∧ static.state = .static ∧ (∃ y ∈ x.blocks, static.eraseCount + 200 < y.eraseCount) ∧
      (∃ y ∈ x.blocks, y.state = .free) ∧ x.queue.length < 4 ∧ x.deferred = false ∧ .relocate ∉ x.queue ∧
      ¬ ({ x with queue := .checkpoint :: x.queue } : Store).queue.length < 4 ∧ ({ x with deferred := true } : Store).deferred ≠ false :=
  ⟨rfl, rfl, by decide, by decide, by decide, rfl, by decide, by decide, by decide⟩

/-! ### Witnesses of the clauses on what follows -/

/-- Of `LogScanRecordCreatesLog`: a record discarded for its station count and one without a reading, with 16 logs queued. -/
theorem witness_logScan_discardedFull :
    let s := sawing (List.replicate 16 (logIn 1 .scanned 0 0))
    s.Attentive ∧ 16 ≤ s.logs.queue.length ∧ ([120] : List Half).length < 2 ∧
      ∀ d ∈ ([0, 0] : List Half).map BitVec.toNat, d = 0 := ⟨⟨rfl, rfl⟩, by decide, by decide, by decide⟩

/-- Of `SolveCompletionWritesTheDecision`: an entry of another board at the front, and one of no board; the board's own entry with
its commit due. -/
theorem witness_solveComplete_next :
    (let s := (solving.setTrack { solving.track with boards := [boardIn 7310 .solving, boardIn 7311 .solving] }).setSolver
       { solving.solver with queue := [(7311, .hold), (7312, .first)] }
     s.Attentive ∧ s.solver.queue = (7311, .hold) :: [(7312, .first)] ∧
       (after .solveComplete s).board? 7311 = some (boardIn 7311 .solving) ∧ (∀ e ∈ s.solver.queue, e.1 ≠ 7310) ∧
       (after .solveComplete (after .solveComplete s)).board? 7312 = none) ∧
      (let s := (solving.setTrack { solving.track with boards := [{ boardIn 7310 .solving with commitDue := true }] }).setSolver
         { solving.solver with queue := [(7310, .override)] }
       s.Attentive ∧ s.solver.queue = (7310, .override) :: [] ∧ (s.board? 7310).map Board.commitDue = some true) := by
  refine ⟨⟨⟨rfl, rfl⟩, rfl, ?_, by decide, ?_⟩, ⟨rfl, rfl⟩, rfl, rfl⟩ <;> decide +kernel

/-- Of `BoardKeyWritesTheOverride`: the solver idle; the board's own solve in progress, with no entry and with one; another's
entry at the front of an idle solver. -/
theorem witness_boardKey_queue :
    let s := selecting [boardIn 9200 .solving, boardIn 9201 .solving] 9200
    let own := some { lug := 9200, reason := .override, input := workedInput none }
    let asking := fun queue inProgress => s.setSolver { s.solver with queue := queue, inProgress := inProgress }
    (asking [] none).Attentive ∧ (asking [] none).solver.inProgress = none ∧ (asking [] own).Attentive ∧
      (asking [] own).solver.inProgress = own ∧ (∀ e ∈ (asking [(9201, .hold)] own).solver.queue, e.1 ≠ 9200) ∧
      (asking [(9201, .hold), (9200, .first)] own).Attentive ∧
      (∃ e ∈ (asking [(9201, .hold), (9200, .first)] own).solver.queue, e.1 = 9200) ∧
      (asking [(9201, .hold)] none).Attentive ∧ (asking [(9201, .hold)] none).solver.inProgress = none :=
  ⟨⟨rfl, rfl⟩, rfl, ⟨rfl, rfl⟩, rfl, by decide, ⟨rfl, rfl⟩, by decide, ⟨rfl, rfl⟩, rfl⟩

/-- Of `RefusedKeyChangesNothing`: a letter that is no key, a field missing, a space at the end, six digits, and a g of 6 spell no
key; a g of 5 in five digits and an n of 0 do. -/
theorem witness_spells :
    (∀ record ∈ [textOf ['Q'], textOf ['G'], textOf ['C', ' '], textOf ['G', ' ', '0', '0', '0', '0', '0', '3'],
        textOf ['H', ' ', '6', ' ', '5']], record ≠ [] ∧ record.length ≤ 32 ∧ (∀ b ∈ record, stationChar b = true) ∧
      ∀ k, ¬ Spells record k) ∧
      Spells (textOf ['G', ' ', '0', '0', '0', '0', '5']) (.gradeMark 5) ∧
      Spells (textOf ['H', ' ', '1', ' ', '0']) (.hold 1 0) := by
  refine ⟨?_, ⟨by decide, by decide, textOf ['0', '0', '0', '0', '5'], by unfold SpellsNumber; decide, by decide⟩,
    ⟨by decide, by decide, textOf ['1'], textOf ['0'], by unfold SpellsNumber; decide, by unfold SpellsNumber; decide, by decide⟩⟩
  intro record hr
  refine ⟨?_, ?_, ?_, ?_⟩
  · revert record; decide
  · revert record; decide
  · revert record; decide
  intro k hk
  simp only [List.mem_cons, List.not_mem_nil, or_false] at hr
  cases k with
  | gradeMark g =>
    obtain ⟨_, _, x, ⟨_, h5, _⟩, rfl⟩ := hk
    simp [textOf, chr] at hr
    subst hr
    simp at h5
  | trimMark p q =>
    obtain ⟨_, _, x, y, _, _, rfl⟩ := hk
    simp [textOf, chr] at hr
  | hold g n =>
    obtain ⟨_, h6, x, y, ⟨hx, _, _, rfl⟩, ⟨hy, _⟩, rfl⟩ := hk
    simp [textOf, chr] at hr
    match x with
    | [] => simp at hx
    | [a] => simp at hr; obtain ⟨rfl, -⟩ := hr; simp at h6
    | a :: b :: c =>
      simp at hr
      have := congrArg List.length hr.2.2
      simp at this
      omega
  | _ => simp only [Spells] at hk; subst hk; revert hr; decide

/-- Of `PeriodsCloseAndReadBack`: the counts of a part at the ends of their range, and beside them; ACCOUNTS; a part of neither
kind. -/
theorem witness_tallyPart :
    tallyPart [0, 1, 0, 255, 64] 2 = some (.product 255 64) ∧ tallyPart [0, 1, 0, 0, 0] 2 = none ∧
      tallyPart [0, 1, 0, 0, 65] 2 = none ∧ tallyPart [0, 1, 1, 0, 0] 2 = some .accounts ∧
      tallyPart [0, 1, 2, 0, 1] 2 = none := by decide

/-- Of `ReclaimEraseEmptiesTheBlock`: the newest valid checkpoint pins its FULL block, and an older one does not. -/
theorem witness_reclaimable :
    let full := fun seq => { Block.blank with
      state := .full, records := [StoreRecord.written (.checkpoint emptyCheckpoint) seq] }
    reclaimable [full 4, full 5] (full 4) = true ∧ reclaimable [full 4, full 5] (full 5) = false := by
  simp [reclaimable, neededRecord, newestCheckpoint, validRecords, Block.blank, newestOf, StoreRecord.isCheckpoint,
    StoreRecord.written, List.filter_cons]

/-- Of `PowerFailWarningAsksForACheckpoint`: a request dropped with no block to reclaim. -/
theorem witness_checkpointRequest_none :
    let f := ready.setStore { ready.store with conditionFull := true }
    StoreOp.checkpoint ∉ f.store.queue ∧ f.store.queue.length < 4 ∧ f.store.conditionFull = true ∧ f.store.erasing = none ∧
      ∀ k ∈ f.store.blocks, reclaimable f.store.blocks k = false := by decide +kernel

/-- Of `StartingEndsWithTheReadyNotice`: the stations as STARTING finds them. -/
theorem witness_startingEnd_display (st : StationId) :
    (State.reset.station st).selection = none ∧ (State.reset.station st).last = none ∧ State.reset.frames.holds = [] ∧
      (State.reset.station st).output = [] := by
  cases st <;> exact ⟨rfl, rfl, rfl, rfl⟩

/-- Of `SendersTakeTheOldestNext`: after the last reply, a BOARD REPORT, another notice, and none; the same after a notice. -/
theorem witness_senders_next :
    let report := Notice.boardReport ((boardIn 7001 .missed).report { bin := 31, stamp := 7 })
    (∀ notices ∈ [[], [report], [Notice.lineStopped 5, report]],
      let s := (replying 1).setLink { (replying 1).link with notices := notices }
      s.powered = true ∧ s.Settled ∧ s.link.sending = some .reply ∧ s.link.replies.tail = [] ∧ s.link.notices = notices) ∧
      (∀ more ∈ [[], [report], [Notice.lineStopped 5, report]],
        (noticing more).Settled ∧ (noticing more).link.replies = [] ∧ (noticing more).link.notices.tail = more) ∧
      ∀ r, Notice.lineStopped 5 ≠ .boardReport r := by
  refine ⟨?_, ?_, by simp⟩ <;> intro x hx <;> simp at hx <;> rcases hx with rfl | rfl | rfl <;>
    first | exact ⟨rfl, rfl, rfl, rfl, rfl⟩ | exact ⟨rfl, rfl, rfl⟩

/-! ### Witnesses of the store's clauses on what follows a completion -/

/-- A flash of a STATIC block between two FULL ones. -/
def twoFull : List Block :=
  [{ Block.blank with state := .full }, { Block.blank with role := .static, state := .static },
   { Block.blank with state := .full }]

/-- Of `StoreWriteCompletes` (R165): what the lowest reclaimable block is: the first of two from block 0, the second from block 1,
none from block 3. -/
theorem witness_lowestReclaimable :
    let x : Store := { ready.store with blocks := twoFull }
    x.LowestReclaimable 0 (some 0) ∧ x.LowestReclaimable 1 (some 2) ∧ x.LowestReclaimable 3 none := by
  intro x
  have h0 : reclaimable x.blocks { Block.blank with state := .full } = true := by decide +kernel
  refine ⟨⟨Nat.zero_le _, ⟨_, rfl, h0⟩, by omega⟩, ⟨by decide, ⟨_, rfl, h0⟩, ?_⟩, ?_⟩
  · intro k b h1 h2 hb
    obtain rfl : k = 1 := by omega
    obtain rfl : { Block.blank with role := .static, state := .static } = b := Option.some.inj hb
    decide +kernel
  · intro k b h3 hb
    have : k < 3 := (List.getElem?_eq_some_iff.1 hb).1
    omega

/-- Of `StoreWriteCompletes`, at each of the four completions, written and not: no erase running and nothing to reclaim, no erase
running and a FULL block, an erase running. -/
theorem witness_completions :
    let written := fun b => some (FlashWrite.mk 1 (.written b 7) false)
    ∀ p ∈ [(StoreOp.checkpoint, written (.checkpoint emptyCheckpoint)), (.period emptyPeriod, written (.period emptyPeriod)),
        (.settings Settings.builtIn, written (.settings Settings.builtIn)), (.relocate, written (.settings Settings.builtIn)),
        (.checkpoint, none), (.period emptyPeriod, none), (.settings Settings.builtIn, none), (.relocate, none)],
      let s := storing [p.1] (some { write := p.2 })
      let f := s.setStore { s.store with blocks := twoFull }
      let e := f.setStore { f.store with erasing := some 0 }
      s.powered = true ∧ s.Settled ∧ s.store.queue = p.1 :: [] ∧ s.store.inFlight = some { write := p.2 } ∧
        s.store.erasing = none ∧ f.powered = true ∧ f.Settled ∧ f.store.erasing = none ∧ e.powered = true ∧ e.Settled ∧
        e.store.erasing.isSome = true := by
  intro written p _
  exact ⟨rfl, rfl, rfl, rfl, rfl, rfl, rfl, rfl, rfl, rfl, rfl⟩

/-- The operations of the store after a completion, in flight, erasing and deferred. -/
def storeAfter (c : Instr) (s : State) : List StoreOp × Bool × Option Nat × Bool :=
  let x := (after c s).store
  (x.queue, x.inFlight.isSome, x.erasing, x.deferred)

/-- R165, R162: a period write completes with a FULL block, the checkpoint behind it does not begin; the erase of block 0 leads to
that of block 2, and the last erase to the checkpoint's begin. -/
theorem test_reclaim_first :
    let s := storing [.period emptyPeriod, .checkpoint] (some (writing (.period emptyPeriod) false))
    let f := s.setStore { s.store with blocks := twoFull ++ [Block.blank] }
    storeAfter .periodWriteDone f = ([.checkpoint], false, some 0, false) ∧
      storeAfter (.reclaimEraseDone false) (after .periodWriteDone f) = ([.checkpoint], false, some 2, false) ∧
      storeAfter (.reclaimEraseDone false) (after (.reclaimEraseDone false) (after .periodWriteDone f)) =
        ([.checkpoint], true, none, false) := by decide +kernel

/-- A store at its last erase, with operations queued, a checkpoint deferred, and the block table given. -/
def lastErase (queue : List StoreOp) (full : Bool) (blocks : List Block) : State :=
  ready.setStore { ready.store with
    blocks := blocks, queue := queue, deferred := true, conditionFull := full, erasing := some 0 }

/-- Of `ReclaimEraseEmptiesTheBlock`, at the last erase: a deferred checkpoint with three operations queued and with four, one that
joins a checkpoint waiting, one dropped in condition FULL by a failed erase, and none deferred. -/
theorem witness_deferred :
    (∀ queue ∈ [[], [.relocate, .relocate, .relocate], [.relocate, .relocate, .relocate, .relocate], [StoreOp.checkpoint]],
      let s := lastErase queue true ready.store.blocks
      s.powered = true ∧ s.Settled ∧ s.power = .ready ∧ s.store.erasing = some 0 ∧ s.store.blocks[0]? = some Block.blank) ∧
      (lastErase [] true ready.store.blocks).store.LowestReclaimable 1 none ∧
      ([StoreOp.relocate, .relocate, .relocate].length < 4 ∧ StoreOp.checkpoint ∉ [StoreOp.relocate, .relocate, .relocate]) := by
  refine ⟨fun _ _ => ⟨rfl, rfl, rfl, rfl, rfl⟩, ?_, by decide⟩
  intro k b _ hb
  obtain rfl := List.eq_of_mem_replicate (List.mem_of_getElem? hb)
  decide +kernel

/-- R162: the deferred checkpoint at the last erase: it begins in an empty queue, joins one that waits, stays deferred with four
operations queued, and is dropped and counted when the erase failed in condition FULL. -/
theorem test_deferred :
    let s := fun queue => lastErase queue true ready.store.blocks
    storeAfter (.reclaimEraseDone false) (s []) = ([.checkpoint], true, none, false) ∧
      storeAfter (.reclaimEraseDone false) (s [.checkpoint]) = ([.checkpoint], true, none, false) ∧
      (storeAfter (.reclaimEraseDone false) (s [.period emptyPeriod, .relocate, .relocate, .relocate])).2.2.2 = true ∧
      storeAfter (.reclaimEraseDone true) (s []) = ([], false, none, false) ∧
      (after (.reclaimEraseDone true) (s [])).store.skipped = 1 := by decide +kernel

/-- A block table whose block 2 is worn 201 times more than the STATIC block 1. -/
def wornTable : List Block :=
  [Block.blank, { Block.blank with role := .static, state := .static }, { Block.blank with eraseCount := 201 }]

/-- Of `ServedAfterReclaim`: a relocation due, allowed at an erase count 201 above the STATIC block's with room for one more and a
FREE block, and not at 200. -/
theorem witness_due :
    let x : Store := { ready.store with blocks := wornTable, queue := [.checkpoint, .checkpoint, .checkpoint], relocationDue := true }
    x.queue.length < 4 ∧ .relocate ∉ x.queue ∧ x.WantsRelocation ∧ (∃ b ∈ x.blocks, b.state = .free) ∧
      ¬ ({ x with blocks := wornTable.take 2 ++ [{ Block.blank with eraseCount := 200 }] } : Store).WantsRelocation := by
  refine ⟨by decide, by decide, ⟨1, _, { Block.blank with eraseCount := 201 }, rfl, rfl, ?_, by decide, by decide⟩,
    ⟨Block.blank, by decide, rfl⟩, ?_⟩
  · intro k z hk hz
    obtain rfl : k = 0 := by omega
    cases hz
    decide
  · rintro ⟨i, b, y, -, -, -, hy, h⟩
    have hy : y = Block.blank ∨ y = { Block.blank with role := .static, state := .static } ∨
        y = { Block.blank with eraseCount := 200 } := by simpa [wornTable] using hy
    have : y.eraseCount ≤ 200 := by rcases hy with rfl | rfl | rfl <;> decide
    omega

/-- Of `StoreWriteCompletes`: a block table without a STATIC block; an operation in flight, an erase running, an empty queue. -/
theorem witness_storeIdentity :
    (∀ b ∈ ready.store.blocks, b.state ≠ .static) ∧
      (storing [.checkpoint] (some { write := none })).store.inFlight.isSome = true ∧
      (lastErase [.checkpoint] true twoFull).store.erasing.isSome = true ∧ ready.store.queue = [] := by decide +kernel

/-- Of `StoreWriteCompletes`, a new STATIC block: the former one beside it, and a third block with records. -/
theorem witness_newStatic :
    let s := settingsFlight true
    let other : Block := { Block.blank with records := [.written (.checkpoint emptyCheckpoint) 3], state := .active }
    let t := s.setStore { s.store with
      blocks := [{ Block.blank with role := .static, state := .static }, { Block.blank with role := .static }, other] }
    t.powered = true ∧ t.Settled ∧ t.store.staticBlock = some 0 ∧ t.store.staticBlock ≠ some 1 ∧
      t.store.staticBlock ≠ some 2 ∧ t.store.blocks[2]? = some other ∧
      t.store.blocks[1]? = some { Block.blank with role := .static } ∧ t.store.queue = .settings Settings.builtIn :: [] :=
  ⟨rfl, rfl, rfl, by decide, by decide, rfl, rfl, rfl⟩

/-! ### Witnesses of the clauses on displays and other boards -/

/-- Of `Station.Refreshed`: no display waits while a line is sent, the line that is sent is a display, a display waits between
other lines, and an idle station. -/
theorem witness_refreshed :
    let d : DisplayLine := { board := none, holds := [] }
    let old : DisplayLine := { board := none, holds := [(7, 4)] }
    let x := fun lines sending => { ready.stationA with output := lines, sending := sending }
    (x [.display old, .reply .ok] true).Refreshed d (x [.display old, .reply .ok, .display d] true) ∧
      (x [.reply .ok, .display old, .reply .noRun] true).Refreshed d (x [.reply .ok, .display d, .reply .noRun] true) ∧
      (x [] false).Refreshed d (x [.display d] false) := by
  intro d old x
  refine ⟨⟨rfl, fun _ => rfl, ?_⟩, ⟨rfl, ?_, ?_⟩, ⟨rfl, fun _ => rfl, ?_⟩⟩
  · intro older e younger h _
    have : StationLine.display e ∈ [StationLine.reply .ok] := by
      have h : [StationLine.reply .ok] = older ++ .display e :: younger := h
      rw [h]; simp
    simp at this
  · intro h
    exact absurd rfl (h (.display old) (by decide) old)
  · intro older e younger h _
    have h : [StationLine.display old, .reply .noRun] = older ++ .display e :: younger := h
    match older, h with
    | [], h => cases h; rfl
    | [a], h => cases h
    | a :: b :: c, h => exact absurd (congrArg List.length h) (by simp)
  · intro older e younger h _
    exact absurd (congrArg List.length (h : [] = older ++ .display e :: younger)) (by simp)

/-- Of `Station.Showing`: a selection, a last board with no selection, and a selection elsewhere that hides the last board. -/
theorem witness_showing :
    ({ ready.stationA with selection := some 9200 } : Station).Showing 9200 ∧
      ({ ready.stationA with last := some 9200 } : Station).Showing 9200 ∧
      ¬ ({ ready.stationA with selection := some 9201, last := some 9200 } : Station).Showing 9200 := by
  unfold Station.Showing
  decide

/-- Of `SolveCompletionWritesTheDecision` and `AcceptanceEmptiesThePresentedSlot`: Station A shows the board, Station B another one;
the completion and the acceptance refresh A's display alone, and the other board stands. -/
theorem witness_shown_boards :
    let shown := fun (s : State) lug => ((s.setTrack { s.track with boards := s.track.boards ++ [boardIn 7400 .solved] }).setStationA
      { ready.stationA with selection := some lug }).setStationB { ready.stationB with last := some 7400 }
    let solve := shown (solving.setTrack { solving.track with boards := [boardIn 7310 .solving] }) 7310
    let accept := shown (onTheLines .interlocked) 7001
    solve.Attentive ∧ accept.Attentive ∧ solve.solver.inProgress.map Solve.lug = some 7310 ∧
      solve.board? 7310 = some (boardIn 7310 .solving) ∧ accept.board? 7001 = some (boardIn 7001 .committed) ∧
      accept.trimmer.phase = .on ∧ accept.trimmer.mode = .interlocked ∧
      (∀ t ∈ [after .solveComplete solve, after .ackRise accept], t.stationA.output.length = 1 ∧ t.stationB.output = [] ∧
        t.board? 7400 = some (boardIn 7400 .solved)) := by
  intro shown solve accept
  refine ⟨⟨rfl, rfl⟩, ⟨rfl, rfl⟩, rfl, rfl, rfl, rfl, rfl, ?_⟩
  decide +kernel

/-- Of `LugEventsMoveTheBoard`: a board that is a station's last board at its sort; a COMMITTED board in no slot at its deadline; a
board beside the one whose events come. -/
theorem witness_lugEvents_displays :
    (let s := (holding [boardIn 7001 .accepted, boardIn 7002 .solved]).setStationA { ready.stationA with last := some 7001 }
     s.board? 7001 = some (boardIn 7001 .accepted) ∧ (s.station .a).last = some 7001 ∧ (s.station .b).last ≠ some 7001 ∧
       (s.sortEvent 7001).stationA.output.length = 1 ∧ (s.sortEvent 7001).stationB.output = []) ∧
      (let s := holding [boardIn 7001 .committed, boardIn 7002 .solved]
       s.board? 7001 = some (boardIn 7001 .committed) ∧ s.trimmer.presented.map Slot.lug ≠ some 7001 ∧
         s.trimmer.staged.map Slot.lug ≠ some 7001) := by decide +kernel

/-- Of `HoldKeyCreatesOrRetriggers`, the high-water mark: a solve in progress with two boards named behind one entry; an idle solver
with one board named and with two. -/
theorem witness_holdKey_highWater :
    let s := fun boards => (holding boards).setChain { ready.chain with lug := 1000 }
    let one := s [boardIn 995 .solved]
    let two := s [boardIn 995 .solved, boardIn 996 .solved]
    let busy := two.setSolver { solving.solver with queue := [(7311, .first)] }
    let high := fun x => (after (.holdKey .a 3 5) x).solver.highWater
    busy.Attentive ∧ busy.solver.inProgress.isSome = true ∧
      (∀ e ∈ busy.solver.queue, ∀ b ∈ [boardIn 995 .solved, boardIn 996 .solved], e.1 ≠ b.lug) ∧
      one.Attentive ∧ two.Attentive ∧ one.solver.inProgress = none ∧ one.solver.queue = [] ∧
      [high busy, high one, high two] = [3, 1, 1] := by
  refine ⟨⟨rfl, rfl⟩, rfl, by decide, ⟨rfl, rfl⟩, ⟨rfl, rfl⟩, rfl, rfl, ?_⟩
  decide +kernel

/-- Of `BoardKeyWritesTheOverride`: the other station owns the record and shows the board, with room for its message and with eight
lines queued; and owns it without showing the board. -/
theorem witness_boardKey_told :
    let b := { boardIn 9200 .solved with override := some { owner := .b, grade := some 5, trim := none, chip := false } }
    let told := fun y : Station => (selecting [b] 9200).setStationB y
    let full := { ready.stationB with output := List.replicate 8 (.reply .ok), sending := true, selection := some 9200 }
    let shows := told { ready.stationB with last := some 9200 }
    shows.Attentive ∧ (told full).Attentive ∧ (told ready.stationB).Attentive ∧
      b.override.map Override.owner = some (otherStation .a) ∧ shows.stationB.lineCount < 8 ∧ ¬ full.lineCount < 8 ∧
      (after (.gradeMarkKey .a 3) shows).stationB.output.length = 2 ∧
      (after (.gradeMarkKey .a 3) (told full)).stationB.messagesLost = 1 ∧
      (after (.gradeMarkKey .a 3) (told ready.stationB)).stationB.output = [.superseded 9200 .a] := by
  refine ⟨⟨rfl, rfl⟩, ⟨rfl, rfl⟩, ⟨rfl, rfl⟩, rfl, ?_⟩
  decide +kernel

/-- The display of section 7.6 (R121): lug 9013, Station A's grade mark, one hold of code 7 and ceiling 4. -/
theorem test_displayText :
    let mark := some { owner := .a, grade := some 3, trim := none, chip := false }
    let b := { boardIn 9013 .solved with override := mark, decision := some (decisionOf (workedInput mark) .override) }
    let s := (selecting [b] 9013).setFrames { running.frames with holds := [holdOf .a 4 7 false] }
    (s.station .a).Showing 9013 ∧ s.board? 9013 = some b ∧
      (s.displayLine .a).text = textOf "D 9013 W SD L10 G3 2X6 A:G3 - H7:4".toList := by
  refine ⟨.inl rfl, rfl, ?_⟩
  decide +kernel

/-! ### Witnesses of the clauses on characters and bytes -/

/-- Of `RefusedKeyChangesNothing`, the characters of R112: an empty record; records of a character received wrongly, of a lower-case
letter, and of a 33rd character, and one of 32; a record in STARTING; a full queue, with a character before the CR, with one in the
buffer, and with the discard mark alone. -/
theorem witness_characters :
    let long := fun n => List.replicate n (RxChar.byte 0x39)
    let full := fun buffer discard => ready.setStationA { ready.stationA with
      buffer := buffer, discard := discard, output := List.replicate 8 (.reply .ok), sending := true }
    (ready.Settled ∧ ready.Attentive ∧ (ready.station .a).lineCount < 8 ∧ (ready.station .a).buffer = [] ∧
      (ready.station .a).discard = false) ∧
      (∀ l ∈ [[RxChar.framingError], [.byte 0x67], long 33, long 32], RxChar.byte 0x0D ∉ l) ∧
      (32 < ((long 33).filter fun c => c ≠ .byte 0x0A).length ∧ ¬ 32 < ((long 32).filter fun c => c ≠ .byte 0x0A).length) ∧
      ((ready.setPower (.starting .reset)).Settled ∧ (ready.setPower (.starting .reset)).power = .starting .reset) ∧
      ((full [] false).Settled ∧ (full [0x43] false).Settled ∧ (full [] true).Settled ∧
        8 ≤ ((full [] false).station .a).lineCount ∧ (∃ c ∈ long 1, c ≠ .byte 0x0A) ∧
        ((full [0x43] false).station .a).buffer ≠ [] ∧ ((full [] true).station .a).discard = true) :=
  ⟨⟨rfl, ready_attentive, by decide, rfl, rfl⟩, by decide, by decide, ⟨rfl, rfl⟩, rfl, rfl, rfl, by decide, by decide, by decide, rfl⟩

/-- R112: `C`, a line feed within, is the key; a record of 33 digits, one of a lower-case letter and one with a framing error are
answered NO SYNTAX; a CR alone is ignored. -/
theorem test_stationCharacters :
    let answers := fun l => (after (.stationSyntaxRecord .b (l ++ [.byte 0x0D])) ready).stationB
    let syntaxErrors := [List.replicate 33 (RxChar.byte 0x39), [.byte 0x67], [.byte 0x43, .framingError]]
    (answers [.byte 0x0A, .byte 0x43, .byte 0x0A]).output = [.reply .noBoard] ∧ answers [] = ready.stationB ∧
      ∀ l ∈ syntaxErrors, (answers l).output = [.reply .noSyntax] ∧ (answers l).syntaxCount = 1 := by decide +kernel

/-- Of `SendersTakeTheOldestNext`, the bytes on the line: nothing sent, each code in the reply that is sent, any notice sent; a
report of an ACCEPTED board and of a MISSED one, with a piece, a chip and no decision. -/
theorem witness_onTheLine :
    ready.link.sending = none ∧
      (∀ code, let l := { ready.link with
          replies := [{ type := 0x1B, tag := 7, code := code, data := [] }], sending := some Sending.reply }
        l.sending = some .reply ∧ l.replies = { type := 0x1B, tag := 7, code := code, data := [] } :: []) ∧
      (∀ n, let l := { ready.link with notices := [n], sending := some (Sending.notice 7) }
        l.sending = some (.notice 7) ∧ l.notices = n :: []) ∧
      (∀ final ∈ [BoardState.accepted, .missed],
        ((boardIn 7001 final).report { bin := 31, stamp := 7 }).final = final ∧ (final = .accepted ∨ final = .missed)) ∧
      ((boardIn 7001 .missed).decision.bind Decision.piece).isSome = true ∧
      ({ workedDecision with piece := none } : Decision).piece = none ∧ (boardIn 7001 .solving).decision = none :=
  ⟨rfl, fun _ => ⟨rfl, rfl⟩, fun _ => ⟨rfl, rfl⟩, by decide, by decide, rfl, rfl⟩

/-- R180, R178: CLEAR LINE (1Bh) with tag 7 taken, as its reply stands on the line: length 1, type 9Bh, the code 00h; and LINE STOPPED
at lug 5 under notice tag 7. -/
theorem test_onTheLine :
    (after (.clearLine 7 []) ready).link.onTheLine.map (fun l => l.take 6) = some [0x7E, 0, 1, 0x9B, 7, 0] ∧
      (noticing []).link.onTheLine.map (fun l => l.take 8) = some [0x7E, 0, 3, 0x67, 7, 0, 0, 5] := by decide +kernel

/-- Of `DiscardedFrameIsCounted`, a frame cut off: nothing of it received, a byte of its length, all but the last check byte; the
characters without a start byte. -/
theorem witness_cutFrame :
    (∀ n ∈ [0, 1, 5], frameContent 0x01 0x5A [] ++ bytesOf 2 0 =
        (frameContent 0x01 0x5A [] ++ bytesOf 2 0).take n ++ (frameContent 0x01 0x5A [] ++ bytesOf 2 0).drop n ∧
      (frameContent 0x01 0x5A [] ++ bytesOf 2 0).drop n ≠ []) ∧
      (frameContent 0x01 0x5A [] ++ bytesOf 2 0).length = 6 ∧
      RxChar.byte 0x7E ∉ [RxChar.framingError, .byte 0x7D, .byte 0x00] := by decide

/-- R178: the start byte of another frame after a part and a held 7Dh breaks the frame and starts its own, which is then taken
whole. -/
theorem test_cutFrame :
    let t := after (.frameDiscarded ([.byte 0x7E, .byte 0, .byte 0, .byte 0x7D] ++ statusFrame)) ready
    t.link.brokenFrames = 1 ∧ codes t = [.accepted] := by decide +kernel

end Sys2Proof.Tests
end

section
/-! SUPPORT. Segment grades and saw masks: what R84, R85 and R103 say of each function of the solve, and the statement on
them. -/

namespace Sys2Proof.Machine

/-! ### Segment grades (R84, R85) -/

/-- The smallest of the five grades that passes a test. -/
theorem find?_gradeNumbers_eq_some {test : Nat → Bool} {g : Nat} :
    gradeNumbers.find? test = some g ↔
      (1 ≤ g ∧ g ≤ 5) ∧ test g = true ∧ ∀ k, 1 ≤ k → k < g → ¬ test k = true := by
  have hr : gradeNumbers = List.range' 1 5 := rfl
  rw [hr, List.find?_range'_eq_some, List.mem_range'_1, Nat.lt_succ_iff]
  simp only [Bool.not_eq_true, Bool.not_eq_true']
  tauto

/-- No grade passes a test. -/
theorem find?_gradeNumbers_eq_none {test : Nat → Bool} :
    gradeNumbers.find? test = none ↔ ∀ g, 1 ≤ g → g ≤ 5 → ¬ test g = true := by
  have hr : gradeNumbers = List.range' 1 5 := rfl
  simp only [hr, List.find?_eq_none, List.mem_range'_1, Nat.lt_succ_iff, and_imp]

theorem meetsGeometry_iff {limits : List Nat} {x : Segment} {g : Nat} : meetsGeometry limits x g = true ↔
    limits.getD (g - 1) 0 ≤ x.thickness ∧ x.wane ≤ limits.getD (4 + g) 0 := by
  simp [meetsGeometry, minThickness, maxWane]

theorem meetsDefects_iff {limits : List Nat} {x : Segment} {g : Nat} : meetsDefects limits x g = true ↔
    x.defect.getD 0 ≤ limits.getD (9 + g) 0 ∧ (x.split = some true → limits.getD (14 + g) 0 ≠ 0) := by
  have hs : x.split = some true ↔ x.split.getD false = true := by cases x.split <;> simp
  rw [hs]
  cases h : x.split.getD false <;> simp [meetsDefects, maxDefect, splitOk, h]

theorem segmentGrade_of_not_full {x : Segment} (h : x.coverage ≠ .full) (limits : List Nat) (geo : Bool) :
    segmentGrade limits geo x = none := by
  unfold segmentGrade
  split
  · exact absurd ‹_› h
  · rfl

/-- A FULL segment graded with its defects known (R84). -/
theorem segmentGrade_full {x : Segment} (h : x.coverage = .full) (limits : List Nat) :
    segmentGrade limits false x =
      some ((gradeNumbers.find? fun g => meetsGeometry limits x g && meetsDefects limits x g).getD 6) := by
  unfold segmentGrade
  simp only [h, Bool.false_eq_true, if_false]
  split <;> simp [*]

/-- A FULL segment graded from geometry alone, no better than GEOCAP (R85). -/
theorem segmentGrade_geometry {x : Segment} (h : x.coverage = .full) (limits : List Nat) :
    segmentGrade limits true x = some ((gradeNumbers.find? (meetsGeometry limits x)).elim 6 fun g => max g (geoCap limits)) := by
  unfold segmentGrade
  simp only [h, if_true]
  split <;> simp [*]

/-- The grade g of 1 to 5 is a FULL segment's exactly when it is the smallest that is met (R84). -/
theorem segmentGrade_full_eq_some {x : Segment} (h : x.coverage = .full) {limits : List Nat} {g : Nat} (h1 : 1 ≤ g)
    (h5 : g ≤ 5) : segmentGrade limits false x = some g ↔
      (meetsGeometry limits x g && meetsDefects limits x g) = true ∧
        ∀ k, 1 ≤ k → k < g → ¬ (meetsGeometry limits x k && meetsDefects limits x k) = true := by
  have hget : ∀ o : Option Nat, o.getD 6 = g ↔ o = some g := by
    rintro (_ | n)
    · simp; omega
    · simp
  rw [segmentGrade_full h, Option.some_inj, hget, find?_gradeNumbers_eq_some]
  exact and_iff_right ⟨h1, h5⟩

/-- The segments of a solve are graded one by one, all by the limits and from the facts that the solve took. -/
theorem gradeSegments_getElem? (i : SolveInput) (k : Nat) :
    (gradeSegments i)[k]? = i.segments[k]?.map fun x => { x with grade := segmentGrade i.limits i.geoOnly x } :=
  List.getElem?_map

/-! ### Sets of saws (R103) -/

/-- The saws added one by one to a set: those of the list that pass the test join it. -/
theorem getLsbD_foldl_saws (test : Nat → Bool) (l : List Nat) (m : BitVec 11) {k : Nat} (hk : k < 11) :
    (l.foldl (fun m k => if test k then m ||| (1#11 <<< k) else m) m).getLsbD k =
      (m.getLsbD k || (decide (k ∈ l) && test k)) := by
  have hbit : ∀ j, (1#11 <<< j).getLsbD k = decide (k = j) := by
    intro j
    rw [← BitVec.twoPow_eq, BitVec.getLsbD_twoPow]
    by_cases hj : k = j
    · simp [← hj, hk]
    · simp [hj, Ne.symm hj]
  induction l generalizing m with
  | nil => simp
  | cons j l ih =>
    rw [List.foldl_cons, ih]
    by_cases hj : k = j
    · subst hj
      cases ht : test k <;> simp [hbit]
    · cases ht : test j <;> simp [hbit, hj]

theorem getLsbD_sawSet (test : Nat → Bool) {k : Nat} (hk : k < 11) : (sawSet test).getLsbD k = test k := by
  unfold sawSet
  rw [getLsbD_foldl_saws test _ _ hk]
  simp [hk]

theorem overWood_iff {extent : Option (Nat × Nat)} {k : Nat} :
    overWood extent k = true ↔ ∃ a b, extent = some (a, b) ∧ a < 2 * k ∧ 2 * k ≤ b := by
  rcases extent with _ | ⟨a, b⟩ <;> simp [overWood]

theorem getLsbD_pieceMask {extent : Option (Nat × Nat)} {p q k : Nat} (hk : k < 11) :
    (pieceMask extent p q).getLsbD k = true ↔
      k = p ∨ k = q ∨ ((k < p ∨ q < k) ∧ overWood extent k = true) := by
  rw [pieceMask, getLsbD_sawSet _ hk]
  simp [or_assoc]

/-! ### The mask of a decision -/

/-- The saws of a decision follow from what it decides: the mask of a CHIP with or without scan, or of its PIECE (R103). -/
def Decision.Masked (i : SolveInput) (d : Decision) : Prop :=
  (d.piece = none → d.mask = if i.noScan then allSaws else chipMask i.extent) ∧
    ∀ x, d.piece = some x → i.noScan = false ∧ d.mask = pieceMask i.extent x.p x.q

theorem chipDecision_masked {i : SolveInput} (h : i.noScan = false) (flags : DecisionFlags) (r : Reason) :
    (chipDecision (chipMask i.extent) flags r).Masked i := by
  simp [Decision.Masked, chipDecision, h]

theorem pieceDecision_masked {i : SolveInput} (h : i.noScan = false) (x : Piece) (n : Nat) (flags : DecisionFlags)
    (r : Reason) : (pieceDecision i.extent x n flags r).Masked i := by
  simp [Decision.Masked, pieceDecision, h]

theorem decideByEnumeration_masked {i : SolveInput} (h : i.noScan = false) (run : Run) (graded : List Segment)
    (r : Reason) : (decideByEnumeration i run graded r).Masked i := by
  unfold decideByEnumeration
  dsimp only
  split
  · split
    · exact pieceDecision_masked h _ _ _ _
    · exact chipDecision_masked h _ _
  · exact chipDecision_masked h _ _

theorem decideByMark_masked {i : SolveInput} (h : i.noScan = false) (run : Run) (c : Candidate) (r : Reason) :
    (decideByMark i run c r).Masked i := by
  unfold decideByMark
  extract_lets raw grade
  split
  · exact pieceDecision_masked h _ _ _ _
  · split
    · exact pieceDecision_masked h _ _ _ _
    · dsimp only
      split <;> exact pieceDecision_masked h _ _ _ _

/-- Every path of a solve (R96) gives a decision with the saws of R103. -/
theorem decisionOf_masked (i : SolveInput) (r : Reason) : (decisionOf i r).Masked i := by
  unfold decisionOf
  dsimp only
  split
  · simp [Decision.Masked, chipDecision, ‹i.noScan = true›]
  · have h : i.noScan = false := by simpa using ‹¬ i.noScan = true›
    split
    · exact chipDecision_masked h _ _
    · split
      · exact chipDecision_masked h _ _
      · split
        · split
          · exact decideByMark_masked h _ _ _
          · exact decideByEnumeration_masked h _ _ _
        · exact decideByEnumeration_masked h _ _ _

/-- Settles O29: grades by the smallest of the five that is met, masks by the saws of each path of the solve. -/
theorem segmentGradesAndSawMask : Obligations.SegmentGradesAndSawMask := by
  unfold Obligations.SegmentGradesAndSawMask
  refine ⟨fun limits x => ?_, fun i k x hx => ?_, fun i r k hk => ?_⟩
  · simp only [← meetsGeometry_iff, ← meetsDefects_iff, ← Bool.and_eq_true]
    refine ⟨fun h geo => segmentGrade_of_not_full h limits geo, fun h g h1 h5 => ⟨segmentGrade_full_eq_some h h1 h5, ?_⟩,
      fun h none_met => ?_, fun h none_met => ?_, fun _ _ => rfl⟩
    · intro met least
      rw [segmentGrade_geometry h, find?_gradeNumbers_eq_some.2 ⟨⟨h1, h5⟩, met, least⟩]
      rfl
    · rw [segmentGrade_full h, find?_gradeNumbers_eq_none.2 none_met]
      rfl
    · rw [segmentGrade_geometry h, find?_gradeNumbers_eq_none.2 none_met]
      rfl
  · rw [gradeSegments_getElem?, hx]
    rfl
  · obtain ⟨chip, piece⟩ := decisionOf_masked i r
    refine ⟨fun noScan => ?_, fun scanned hd => ?_, fun x hx => ?_⟩
    · have hd : (decisionOf i r).piece = none := by
        by_contra hd
        obtain ⟨x, hx⟩ := Option.ne_none_iff_exists'.1 hd
        exact absurd ((piece x hx).1.symm.trans noScan) Bool.false_ne_true
      rw [chip hd, if_pos noScan]
      exact ⟨hd, getLsbD_sawSet _ hk⟩
    · rw [chip hd, scanned, if_neg Bool.false_ne_true, chipMask, getLsbD_sawSet _ hk, overWood_iff]
    · rw [(piece x hx).2, getLsbD_pieceMask hk, overWood_iff]

end Sys2Proof.Machine
end

section
/-! SUPPORT. The effective value of a limit, what a solve takes and keeps, and what a completion writes (R73, R90, R91), with
the statement on them. -/

namespace Sys2Proof.Machine

variable {s t u : State} {ps : List Part}

/-! ### The newest frame that defines a limit (R73) -/

theorem Frames.limits_length (f : Frames) : f.limits.length = 27 := by simp [Frames.limits]

theorem Frames.limits_getD (f : Frames) {n : Nat} (h : n < 27) : f.limits.getD n 0 = f.effective n := by
  simp [Frames.limits, List.getD, h]

theorem Frames.effective_ceiling {f : Frames} {older : List Hold} {h : Hold} (hf : f.holds = older ++ [h]) :
    f.effective 25 = h.ceiling := by
  simp [Frames.effective, hf]

/-- A HOLD frame defines no limit but CEILING. -/
theorem Frames.effective_belowHolds {f : Frames} {n : Nat} (h : n ≠ 25 ∨ f.holds = []) :
    f.effective n = f.belowHolds n := by
  unfold Frames.effective
  split
  · rename_i hl
    obtain hn | hn := h
    · rw [if_neg hn]
    · simp [hn] at hl
  · rfl

/-- The RUN frame's entry, each limit having one at most. -/
theorem Frames.belowHolds_entry {f : Frames} {entries : List (Nat × Nat)} {n v : Nat} (hr : f.run = some entries)
    (once : (entries.map Prod.fst).Nodup) (hv : (n, v) ∈ entries) : f.belowHolds n = v := by
  have hfind : entries.find? (fun e => e.1 == n) = some (n, v) := by
    cases he : entries.find? fun e => e.1 == n with
    | none => exact absurd (List.find?_eq_none.1 he _ hv) (by simp)
    | some e =>
      have hn : e.1 = n := by simpa using List.find?_some he
      rw [List.inj_on_of_nodup_map once (List.mem_of_find?_eq_some he) hv hn]
  simp [Frames.belowHolds, hr, hfind]

theorem Frames.belowHolds_base {f : Frames} {n : Nat}
    (h : ∀ entries, f.run = some entries → n ∉ entries.map Prod.fst) : f.belowHolds n = f.base.getD n 0 := by
  unfold Frames.belowHolds
  split
  · rename_i e he
    obtain ⟨entries, hr, hf⟩ := Option.bind_eq_some_iff.1 he
    have hn : e.1 = n := by simpa using List.find?_some hf
    exact absurd (List.mem_map.2 ⟨e, List.mem_of_find?_eq_some hf, hn⟩) (h entries hr)
  · rfl

/-! ### The solve in progress -/

/-- The solve that begins takes its board with the limits, the generation, the run and the tables of the moment (R90). -/
theorem State.beginSolve_takes {lug : Lug} {reason : Reason} {rest : List (Lug × Reason)} {b : Board}
    (idle : s.solver.inProgress = none) (hq : s.solver.queue = (lug, reason) :: rest) (hb : s.board? lug = some b) :
    s.beginSolve.solver.inProgress = some { lug := lug, reason := reason, input := s.solveInput b } := by
  simp [State.beginSolve, idle, hq, hb]

/-- A solve in progress goes on as it is, from what it took at its begin. -/
def State.KeepsSolve (s t : State) : Prop := ∀ v, s.solver.inProgress = some v → t.solver.inProgress = some v

theorem State.KeepsSolve.refl (s : State) : s.KeepsSolve s := fun _ h => h

theorem State.KeepsSolve.trans (h : s.KeepsSolve t) (h' : t.KeepsSolve u) : s.KeepsSolve u := fun v hv => h' v (h v hv)

theorem State.KeepsSolve.ite {c : Prop} [Decidable c] (h : s.KeepsSolve t) (h' : s.KeepsSolve u) :
    s.KeepsSolve (if c then t else u) := by
  split <;> assumption

theorem State.KeepsSolve.foldl {α : Type} {f : State → α → State} (h : ∀ (s : State) (x : α), s.KeepsSolve (f s x))
    (l : List α) (s : State) : s.KeepsSolve (l.foldl f s) := by
  induction l generalizing s with
  | nil => exact .refl _
  | cons x l ih => exact (h s x).trans (ih _)

/-- A change that leaves the Trim Solver alone. -/
theorem State.sameBut.keepsSolve (h : s.sameBut t ps) (hn : Part.solver ∉ ps := by decide) : s.KeepsSolve t := by
  intro v hv
  have hs : t.solver = s.solver := h .solver hn
  rw [hs, hv]

/-- A change of the Trim Solver elsewhere. -/
theorem State.setSolver_keepsSolve {x : Solver} (h : x.inProgress = s.solver.inProgress) : s.KeepsSolve (s.setSolver x) :=
  fun _ hv => h.trans hv

theorem Solver.enqueue_inProgress (x : Solver) (lug : Lug) (reason : Reason) :
    (x.enqueue lug reason).inProgress = x.inProgress := by
  unfold Solver.enqueue
  split <;> rfl

/-- A solve begins in an idle solver alone (R90). -/
theorem State.beginSolve_keepsSolve (s : State) : s.KeepsSolve s.beginSolve := by
  obtain ⟨-, e⟩ | ⟨lug, reason, rest, idle, -, e⟩ := s.beginSolve_cases
  · rw [e]
    exact .refl s
  · intro v hv
    exact absurd (idle.symm.trans hv) (by simp)

theorem State.requestSolve_keepsSolve (s : State) (lug : Lug) (reason : Reason) :
    s.KeepsSolve (s.requestSolve lug reason) :=
  (State.setSolver_keepsSolve (Solver.enqueue_inProgress _ _ _)).trans (State.beginSolve_keepsSolve _)

theorem State.requestResolve_keepsSolve (s : State) (lug : Lug) (reason : Reason) :
    s.KeepsSolve (s.requestResolve lug reason) := by
  unfold State.requestResolve
  split
  · exact .refl s
  · split
    · exact s.requestSolve_keepsSolve _ _
    · exact (s.updateBoard_same _ _).keepsSolve.trans (State.requestSolve_keepsSolve _ _ _)
    · exact .refl s

/-! ### Frames that come and go beside a solve -/

theorem State.createHold_keepsSolve (s : State) (st : StationId) (g n : Nat) : s.KeepsSolve (s.createHold st g n) :=
  (((s.setFrames_same _).keepsSolve.trans (State.notifyHold_same _ _ _ _).keepsSolve).trans
    (.foldl (fun s lug => s.requestResolve_keepsSolve lug .hold) _ _)).trans (State.refresh_same _ _).keepsSolve

theorem State.pushHold_keepsSolve (s : State) (st : StationId) (g n : Nat) : s.KeepsSolve (s.pushHold st g n).1 := by
  unfold State.pushHold
  split
  · exact (s.retriggerHold_same _ _).keepsSolve
  · split
    · exact .refl s
    · split
      · exact .refl s
      · exact s.createHold_keepsSolve _ _ _

theorem State.closeRun_keepsSolve (s : State) : s.KeepsSolve s.closeRun :=
  ((State.setSolver_keepsSolve (x := { s.solver with run := none }) rfl).trans
    (State.closeFrames_same _).keepsSolve).trans (State.tellRunChange_same _).keepsSolve

theorem State.openRun_keepsSolve (s : State) (f : OpenFields) : s.KeepsSolve (s.openRun f) := by
  unfold State.openRun
  dsimp only
  refine State.KeepsSolve.trans ?_ (State.tellRunChange_same _).keepsSolve
  refine State.KeepsSolve.trans ?_ (State.openFrames_same _ _).keepsSolve
  exact (State.KeepsSolve.ite s.closeRun_keepsSolve (.refl s)).trans (State.setSolver_keepsSolve rfl)

theorem State.doOpenRun_keepsSolve (body : List Byte) (s : State) : s.KeepsSolve (s.doOpenRun body).1 := by
  unfold State.doOpenRun
  split
  · exact .refl s
  · exact s.openRun_keepsSolve _

theorem State.doCloseRun_keepsSolve (s : State) : s.KeepsSolve s.doCloseRun.1 := by
  unfold State.doCloseRun
  split
  · exact s.closeRun_keepsSolve
  · exact .refl s

/-- A request, answered or not, whose owner lets the solve in progress go on. -/
theorem State.request_keepsSolve {owner : State → Answer} (h : ∀ s : State, s.KeepsSolve (owner s).1) (s : State)
    (type tag : Byte) (ok : Bool) : s.KeepsSolve (s.request type tag ok owner) := by
  have serve (s : State) : s.KeepsSolve (s.serve type tag ok owner) :=
    .ite ((h s).trans (State.reply_same _ _ _ _ _).keepsSolve) (s.reply_same _ _ _ _).keepsSolve
  have take (s : State) : s.KeepsSolve (s.takeFrame type tag ok owner) :=
    .ite (s.setLink_same _).keepsSolve (.ite (serve s) (s.reply_same _ _ _ _).keepsSolve)
  exact .ite (((s.setLink_same _).keepsSolve.trans (take _)).trans (State.takeUp_same _).keepsSolve) (.refl s)

/-- A key's record, taken or not, whose effect lets the solve in progress go on. -/
theorem State.stationKey_keepsSolve {st : StationId} {k : Key} (h : ∀ s : State, s.KeepsSolve (s.actKey st k)) (s : State) :
    s.KeepsSolve (s.stationKey st k) := by
  unfold State.stationKey
  split
  · refine State.KeepsSolve.trans (.ite (s.setStation_same _ _).keepsSolve ?_) (State.takeUp_same _).keepsSolve
    exact (s.setStation_same _ _).keepsSolve.trans (.ite (h _) (State.syntaxRecord_same _ _).keepsSolve)
  · exact (s.setStation_same _ _).keepsSolve
  · exact .refl s

theorem State.actKey_hold_keepsSolve (s : State) (st : StationId) (g n : Nat) :
    s.KeepsSolve (s.actKey st (.hold g n)) :=
  (s.answer_same _ _).keepsSolve.trans (State.pushHold_keepsSolve _ _ _ _)

theorem State.actKey_cancel_keepsSolve (s : State) (st : StationId) : s.KeepsSolve (s.actKey st .cancel) :=
  (s.answer_same _ _).keepsSolve.trans (State.cancelHold_same _ _).keepsSolve

/-! ### What a completion writes (R91) -/

/-- What a solve has written into a board's record: its generation and its decision. -/
def Board.solved (b : Board) : Option (BitVec 16) × Option Decision := (b.generation, b.decision)

theorem Board.solved_writeSolve (b : Board) (v : Solve) :
    (b.writeSolve v).solved = (some v.input.generation, some (decisionOf v.input v.reason)) := rfl

variable {lug : Lug}

/-- The record of a board stays in the table, and in it what a solve has written. -/
def State.KeepsSolved (lug : Lug) (s t : State) : Prop := (t.board? lug).map Board.solved = (s.board? lug).map Board.solved

theorem State.KeepsSolved.refl (s : State) : State.KeepsSolved lug s s := rfl

theorem State.KeepsSolved.trans (h : State.KeepsSolved lug s t) (h' : State.KeepsSolved lug t u) :
    State.KeepsSolved lug s u := Eq.trans h' h

theorem State.KeepsSolved.ite {c : Prop} [Decidable c] (h : State.KeepsSolved lug s t) (h' : State.KeepsSolved lug s u) :
    State.KeepsSolved lug s (if c then t else u) := by
  split <;> assumption

theorem State.KeepsSolved.foldl {α : Type} {f : State → α → State}
    (h : ∀ (s : State) (x : α), State.KeepsSolved lug s (f s x)) (l : List α) (s : State) :
    State.KeepsSolved lug s (l.foldl f s) := by
  induction l generalizing s with
  | nil => exact .refl _
  | cons x l ih => exact (h s x).trans (ih _)

/-- A change that leaves the Tracking Table alone keeps every record. -/
theorem State.sameBut.keepsSolved (h : s.sameBut t ps) (hn : Part.track ∉ ps := by decide) : State.KeepsSolved lug s t := by
  have ht : t.track = s.track := h .track hn
  simp only [State.KeepsSolved, State.board?, ht]

/-- A record is changed elsewhere than in what a solve has written. -/
theorem State.updateBoard_keepsSolved (s : State) (k : Lug) {f : Board → Board}
    (hl : ∀ b, (f b).lug = b.lug := by exact fun _ => rfl) (hs : ∀ b, (f b).solved = b.solved := by exact fun _ => rfl) :
    State.KeepsSolved lug s (s.updateBoard k f) := by
  unfold State.KeepsSolved
  by_cases hk : lug = k
  · subst hk
    rw [s.board?_updateBoard _ hl, Option.map_map]
    exact Option.map_congr fun b _ => hs b
  · rw [s.board?_updateBoard_other hl hk]

theorem State.hit_keepsSolved (s : State) (k : Nat) (p : WatchProgram) (point : Point) (n : Lug) :
    State.KeepsSolved lug s (s.hit k p point n) := by
  unfold State.hit
  dsimp only
  refine State.KeepsSolved.trans ?_ (.ite (State.setWatch_same _ _).keepsSolved (.refl _))
  refine State.KeepsSolved.trans ?_ (State.notify_same _ _).keepsSolved
  exact (s.updateBoard_keepsSolved n).trans (State.setWatch_same _ _).keepsSolved

theorem State.testSlot_keepsSolved (s : State) (point : Point) (n : Lug) (k : Nat) :
    State.KeepsSolved lug s (s.testSlot point n k) := by
  unfold State.testSlot
  split
  · split
    · exact s.hit_keepsSolved _ _ _ _
    · exact .refl s
  · exact .refl s

theorem State.watchHand_keepsSolved (s : State) (point : Point) (n : Lug) :
    State.KeepsSolved lug s (s.watchHand point n) :=
  .foldl (fun s k => s.testSlot_keepsSolved point n k) _ s

theorem State.missBoard_keepsSolved (s : State) (b : Board) (f : BoardFlags → BoardFlags) :
    State.KeepsSolved lug s (s.missBoard b f) :=
  ((s.updateBoard_keepsSolved _).trans
    (State.refreshShowing_same _ _).keepsSolved).trans (State.boardResult_same _ _ _).keepsSolved

theorem State.makeCommit_keepsSolved (s : State) (n : Lug) : State.KeepsSolved lug s (s.makeCommit n) := by
  unfold State.makeCommit
  split
  · split
    · refine State.KeepsSolved.trans ?_ (State.watchHand_keepsSolved _ _ _)
      refine (s.setTrimmer_same _).keepsSolved.trans (.ite ?_ (State.missBoard_keepsSolved _ _ _))
      exact (State.updateBoard_keepsSolved _ _).trans
        (State.refreshShowing_same _ _).keepsSolved
    · exact .refl s
  · exact .refl s

theorem State.settleSolve_keepsSolved (s : State) (n : Lug) (more : Bool) :
    State.KeepsSolved lug s (s.settleSolve n more) := by
  unfold State.settleSolve
  split
  · exact .ite (.refl s) (.ite (s.makeCommit_keepsSolved n) (s.updateBoard_keepsSolved n))
  · exact .refl s

/-- A completion that finds its board SOLVING writes its generation and its decision (R55, R91). -/
theorem State.takeSolve_writes {v : Solve} {b : Board} (hb : s.board? v.lug = some b) (hs : b.state = .solving)
    (more : Bool) : ((s.takeSolve v more).board? v.lug).map Board.solved =
      some (some v.input.generation, some (decisionOf v.input v.reason)) := by
  have written : ((s.updateBoard v.lug fun x => x.writeSolve v).board? v.lug).map Board.solved =
      some (some v.input.generation, some (decisionOf v.input v.reason)) := by
    rw [s.board?_updateBoard v.lug (f := fun x => x.writeSolve v) fun _ => rfl, hb]
    exact congrArg some (b.solved_writeSolve v)
  have kept (t : State) : State.KeepsSolved v.lug t
      (((t.watchHand .solve v.lug).settleSolve v.lug more).refreshShowing v.lug) :=
    ((t.watchHand_keepsSolved _ _).trans (State.settleSolve_keepsSolved _ _ _)).trans
      (State.refreshShowing_same _ _).keepsSolved
  unfold State.takeSolve
  simp only [hb, hs, if_true]
  exact Eq.trans (kept _) written

/-- The parts of a completion (R91): the Tracking Table takes it between two changes of the Trim Solver, and then the next solve
begins. -/
theorem State.completeSolve_eq {v : Solve} (hp : s.solver.inProgress = some v) : ∃ x more y,
    s.completeSolve = (((s.setSolver x).takeSolve v more).setSolver y).beginSolve := by
  unfold State.completeSolve
  simp only [hp]
  exact ⟨_, _, _, rfl⟩

/-- What a completion writes stands in the record when the next solve has begun. -/
theorem State.completeSolve_writes {v : Solve} {b : Board} (hp : s.solver.inProgress = some v)
    (hb : s.board? v.lug = some b) (hs : b.state = .solving) : (s.completeSolve.board? v.lug).map Board.solved =
      some (some v.input.generation, some (decisionOf v.input v.reason)) := by
  obtain ⟨x, more, y, e⟩ := State.completeSolve_eq hp
  have counted : (s.setSolver x).board? v.lug = some b := hb
  have begun (t : State) : State.KeepsSolved v.lug t (t.setSolver y).beginSolve :=
    (t.setSolver_same y).keepsSolved.trans (State.beginSolve_same _).keepsSolved
  rw [e]
  exact Eq.trans (begun _) (State.takeSolve_writes counted hs more)

/-! ### The statement -/

/-- Settles O25: the chain's order gives the values, a begin takes them, no frame command touches them, and the completion
writes from them. -/
theorem newestFrameGivesTheLimit : Obligations.NewestFrameGivesTheLimit := by
  unfold Obligations.NewestFrameGivesTheLimit
  refine ⟨fun f n hn => ?_, fun s lug reason rest b idle hq hb => ?_, fun s v st g n tag body hp c hc => ?_,
    fun s v b ready hp hb hs => ?_⟩
  · rw [f.limits_getD hn]
    refine ⟨fun older h h25 hf => ?_, fun entries v below hr once hv => ?_, fun below undefined => ?_⟩
    · rw [h25, Frames.effective_ceiling hf]
    · rw [Frames.effective_belowHolds below, Frames.belowHolds_entry hr once hv]
    · rw [Frames.effective_belowHolds below, Frames.belowHolds_base undefined]
  · exact ⟨_, State.beginSolve_takes idle hq hb, rfl, rfl, s.frames.limits_length, fun _ _ => rfl, rfl⟩
  · simp only [List.mem_cons, List.not_mem_nil, or_false] at hc
    obtain rfl | rfl | rfl | rfl | rfl | rfl := hc
    · exact ⟨_, rfl, s.request_keepsSolve (State.doOpenRun_keepsSolve body) _ _ _ v hp⟩
    · exact ⟨_, rfl, s.request_keepsSolve State.doCloseRun_keepsSolve _ _ _ v hp⟩
    · exact ⟨_, rfl, s.request_keepsSolve (fun t => (t.doSetBase_same body).keepsSolve) _ _ _ v hp⟩
    · exact ⟨_, rfl, s.stationKey_keepsSolve (fun t => t.actKey_hold_keepsSolve st g n) v hp⟩
    · exact ⟨_, rfl, s.stationKey_keepsSolve (fun t => t.actKey_cancel_keepsSolve st) v hp⟩
    · exact ⟨_, rfl, State.sameBut.keepsSolve (State.whenReady_same (fun t => t.expireHold_same n) s) (by decide) v hp⟩
  · have written := State.completeSolve_writes hp hb hs
    obtain ⟨b', hb', hw⟩ := Option.map_eq_some_iff.1 written
    obtain ⟨hg, hd⟩ := Prod.mk.inj hw
    refine ⟨s.whenReady State.completeSolve, b', rfl, ?_, hg, hd⟩
    rw [State.whenReady_ready ready.1]
    exact hb'

end Sys2Proof.Machine
end

section
/-! SUPPORT. The Sorter Port: the delivery of a strobe, its end and its gap (R142), the codes of a board (R143), and what the
sort event and CLEAR LINE do to the port, with the statement on them. -/

namespace Sys2Proof.Machine

variable {s : State} {x : Sorter} {codes : SortResult} {w : Nat}

/-! ### The delivery of a strobe, its end and its gap (R142) -/

theorem Sorter.deliver_idle (h : x.strobe = .idle) :
    x.deliver codes w = { x with strobe := .strobing codes w, delivered := satInc x.delivered } := by
  obtain ⟨-, e⟩ | ⟨busy, -⟩ | ⟨busy, -⟩ := x.deliver_cases codes w
  · exact e
  · exact absurd h busy
  · exact absurd h busy

theorem Sorter.deliver_busy (h : x.strobe ≠ .idle) (hw : x.waiting = none) :
    x.deliver codes w = { x with waiting := some codes } := by
  obtain ⟨idle, -⟩ | ⟨-, -, e⟩ | ⟨-, taken, -⟩ := x.deliver_cases codes w
  · exact absurd idle h
  · exact e
  · exact absurd hw taken

theorem Sorter.deliver_overrun (h : x.strobe ≠ .idle) (hw : x.waiting.isSome = true) :
    x.deliver codes w = { x with overruns := satInc x.overruns } := by
  obtain ⟨idle, -⟩ | ⟨-, free, -⟩ | ⟨-, -, e⟩ := x.deliver_cases codes w
  · exact absurd idle h
  · exact absurd free (Option.isSome_iff_ne_none.1 hw)
  · exact e

theorem Sorter.strobeEnd_strobing (h : x.strobe = .strobing codes w) : x.strobeEnd = { x with strobe := .gap w } := by
  simp only [Sorter.strobeEnd, h]

theorem Sorter.gapEnd_none {v : Nat} (h : x.strobe = .gap v) (hw : x.waiting = none) :
    x.gapEnd w = { x with strobe := .idle } := by
  simp only [Sorter.gapEnd, h, hw]

theorem Sorter.gapEnd_waiting {v : Nat} (h : x.strobe = .gap v) (hw : x.waiting = some codes) :
    x.gapEnd w =
      { x with strobe := .strobing codes w, waiting := none, delivered := satInc x.delivered } := by
  simp only [Sorter.gapEnd, h, hw, Sorter.begin]

theorem Sorter.lines_strobing (h : x.strobe = .strobing codes w) : x.lines = (codes.bin, codes.stamp, true) := by
  simp only [Sorter.lines, h]

theorem Sorter.lines_gap (h : x.strobe = .gap w) : x.lines = (0, 0, false) := by
  simp only [Sorter.lines, h]

/-- An attentive processor that changes the Sorter Port alone: no sender has anything new to take up. -/
theorem State.whenReady_setSorter (h : s.Attentive) (f : State → Sorter) :
    s.whenReady (fun s => s.setSorter (f s)) = s.setSorter (f s) := by
  obtain ⟨ready, settled⟩ := h
  rw [State.whenReady_ready ready]
  exact settled.of_senders rfl rfl rfl

theorem exec_strobeEnd (h : s.Attentive) : exec .strobeEnd s = .next (s.setSorter s.sorter.strobeEnd) :=
  congrArg Host.Outcome.next (State.whenReady_setSorter h fun s => s.sorter.strobeEnd)

theorem exec_strobeGapEnd (h : s.Attentive) :
    exec .strobeGapEnd s = .next (s.setSorter (s.sorter.gapEnd s.trimmer.width)) :=
  congrArg Host.Outcome.next (State.whenReady_setSorter h fun s => s.sorter.gapEnd s.trimmer.width)

/-! ### The codes of a board (R143) -/

/-- The oldest entry of a key gives its bin. -/
theorem Sorter.binOf_entry {older younger : List (ProductKey × Nat)} {key : ProductKey} {bin : Nat}
    (hx : x.bins = older ++ (key, bin) :: younger) (first : ∀ e ∈ older, e.1 ≠ key) : x.binOf key = some bin := by
  have none_older : older.find? (fun e => e.1 == key) = none :=
    List.find?_eq_none.2 fun e he => by simpa using first e he
  simp [Sorter.binOf, hx, none_older]

theorem Sorter.binOf_no_entry {key : ProductKey} (h : ∀ e ∈ x.bins, e.1 ≠ key) : x.binOf key = none := by
  have none_at_all : x.bins.find? (fun e => e.1 == key) = none :=
    List.find?_eq_none.2 fun e he => by simpa using h e he
  simp [Sorter.binOf, none_at_all]

theorem Sorter.codes_of_not_accepted {st : BoardState} (h : st ≠ .accepted) (d : Option Decision) :
    x.codes st d = { bin := 31, stamp := 7 } := if_neg h

theorem Sorter.codes_chip {d : Decision} (h : d.piece = none) :
    x.codes .accepted (some d) = { bin := 0, stamp := 0 } := by
  simp [Sorter.codes, h]

/-- An accepted piece: its key's bin, or else the bin its grade falls back on; its grade for the stamp. -/
theorem Sorter.codes_piece {d : Decision} {piece : Piece} (h : d.piece = some piece) :
    x.codes .accepted (some d) =
      { bin := (x.binOf piece.key).getD (if piece.key.grade = 6 then 31 else x.defaultBin),
        stamp := piece.key.grade } := by
  by_cases six : piece.key.grade = 6 <;> simp [Sorter.codes, h, six]

/-! ### The sort event (R64) -/

/-- The board's codes delivered and written into its record: the state in which the Watch Unit is handed the board. -/
def State.deliverCodes (s : State) (lug : Lug) (codes : SortResult) : State :=
  (s.setSorter (s.sorter.deliver codes s.trimmer.width)).updateBoard lug fun b => { b with sort := some codes }

/-- The steps of the sort event of a board that has its result. -/
theorem State.sortEvent_eq {lug : Lug} {b : Board} (hb : s.board? lug = some b)
    (hr : b.state = .accepted ∨ b.state = .missed) :
    let codes := s.sorter.codes b.state b.decision
    s.sortEvent lug = (((s.deliverCodes lug codes).watchHand .report lug).notify
      (.boardReport (b.report codes))).removeBoard lug := by
  simp only [State.sortEvent, hb, if_pos hr, State.deliverCodes]

theorem State.deliverCodes_board? {lug : Lug} {b : Board} (hb : s.board? lug = some b) (codes : SortResult) :
    (s.deliverCodes lug codes).board? lug = some { b with sort := some codes } := by
  have port_changed : (s.setSorter (s.sorter.deliver codes s.trimmer.width)).board? lug = some b := hb
  exact (State.board?_updateBoard _ lug (f := fun b => { b with sort := some codes }) fun _ => rfl).trans
    (congrArg (Option.map _) port_changed)

/-- The frame of the end of a sort event: the board's report and its removal. -/
theorem State.reportAndRemove_same (s : State) (n : Notice) (lug : Lug) :
    s.sameBut ((s.notify n).removeBoard lug) [.track, .link, .stationA, .stationB] :=
  (s.notify_same n).trans (State.removeBoard_same _ lug)

/-- After the delivery the sort event changes the port no more. -/
theorem State.sortEvent_sorter {lug : Lug} {b : Board} (hb : s.board? lug = some b)
    (hr : b.state = .accepted ∨ b.state = .missed) :
    (s.sortEvent lug).sorter = s.sorter.deliver (s.sorter.codes b.state b.decision) s.trimmer.width := by
  rw [State.sortEvent_eq hb hr]
  exact (State.reportAndRemove_same _ _ lug .sorter (by decide)).trans
    (State.watchHand_same _ .report lug .sorter (by decide))

/-- After the handing the sort event changes the Watch Unit no more. -/
theorem State.sortEvent_watch {lug : Lug} {b : Board} (hb : s.board? lug = some b)
    (hr : b.state = .accepted ∨ b.state = .missed) : (s.sortEvent lug).watch =
      ((s.deliverCodes lug (s.sorter.codes b.state b.decision)).watchHand .report lug).watch := by
  rw [State.sortEvent_eq hb hr]
  exact State.reportAndRemove_same _ _ lug .watch (by decide)

/-! ### CLEAR LINE -/

/-- A request, answered or not, whose owner leaves the Sorter Port alone. -/
theorem State.request_sorter {owner : State → Answer} (h : ∀ s : State, (owner s).1.sorter = s.sorter) (s : State)
    (type tag : Byte) (ok : Bool) : (s.request type tag ok owner).sorter = s.sorter := by
  have serve (s : State) : (s.serve type tag ok owner).sorter = s.sorter := by
    unfold State.serve
    split
    · exact h s
    · rfl
  have take (s : State) : (s.takeFrame type tag ok owner).sorter = s.sorter := by
    unfold State.takeFrame
    split
    · rfl
    · split
      · exact serve s
      · rfl
  unfold State.request State.whenPowered
  split
  · exact take _
  · rfl

theorem State.doClearLine_sorter (s : State) : s.doClearLine.1.sorter = s.sorter :=
  s.clearLine_same .sorter (by decide)

/-! ### The statement -/

/-- Settles O38: the delivery by the strobe state, the frames of the sort event and of CLEAR LINE, the port's two timer events,
and the rows of the table of codes. -/
theorem strobesCarryTheSortCodes : Obligations.StrobesCarryTheSortCodes := by
  unfold Obligations.StrobesCarryTheSortCodes
  refine ⟨fun s lug b hb hr => ?_, fun s t tag ht => ?_, fun s attentive => ⟨fun codes w h => ?_, fun w h => ?_⟩,
    fun x st d => ⟨fun h => Sorter.codes_of_not_accepted h d, ?_, ?_⟩⟩
  · exact ⟨_, s.deliverCodes lug (s.sorter.codes b.state b.decision), State.sortEvent_sorter hb hr,
      Sorter.deliver_idle, Sorter.deliver_busy, Sorter.deliver_overrun, State.deliverCodes_board? hb _, rfl, rfl,
      State.sortEvent_watch hb hr⟩
  · obtain rfl := Host.Outcome.next.inj ht
    exact s.request_sorter State.doClearLine_sorter _ _ _
  · rw [exec_strobeEnd attentive, Sorter.strobeEnd_strobing h]
    exact ⟨Sorter.lines_strobing h, rfl⟩
  · rw [exec_strobeGapEnd attentive]
    refine ⟨Sorter.lines_gap h, fun none_waits => ?_, fun codes waits => ?_⟩
    · rw [Sorter.gapEnd_none h none_waits]
    · rw [Sorter.gapEnd_waiting h waits]
      rfl
  · rintro y rfl rfl chip
    exact Sorter.codes_chip chip
  · rintro y piece rfl rfl hp
    rw [Sorter.codes_piece hp]
    refine ⟨rfl, fun older bin younger hx first => ?_, fun no_entry six => ?_, fun no_entry not_six => ?_⟩
    · rw [Sorter.binOf_entry hx first, Option.getD_some]
    · rw [Sorter.binOf_no_entry no_entry, if_pos six, Option.getD_none]
    · rw [Sorter.binOf_no_entry no_entry, if_neg not_six, Option.getD_none]

end Sys2Proof.Machine
end
